-- ==== Sys2Proof/Word.lean ====
section
/-! DEFINITION. The machine's words. Registers, addresses and descriptor words are 32 bits wide (10_state R33,
20_memory R100); memory, frames and buffers are made of bytes (R12, R105). -/

namespace Sys2Proof

/-- A 32-bit register, address or descriptor word (R33, R104). -/
abbrev Word := BitVec 32

/-- One byte of memory or of a frame (R12, R105). -/
abbrev Byte := BitVec 8

end Sys2Proof
end

