-- ==== Sys2Proof/Syntax.lean ====
section
/-! DEFINITION. The instructions: one MMIO register access each (00_scope R2), one constructor per row of
spec/opcode_table.json, in the table's order. The operands are the device whose window is accessed and, where the row
covers both directions (30_encoding R141), the access itself. -/

namespace Sys2Proof

/-- The four device instances (00_scope R7 `N_DEV`, 10_state R31). -/
inductive Dev where
  | pmac0 | emac0 | pmac1 | emac1
deriving DecidableEq, Repr, Inhabited

/-- The two physical MACs; each is formed by a pMAC and its eMAC (10_state R31, 45_mmsl R520). -/
inductive Mac where
  | mac0 | mac1
deriving DecidableEq, Repr, Inhabited

/-- One register access: a read, or a write of a 32-bit data word (20_memory R101). -/
inductive MmioOp where
  | read
  | write (v : Word)
deriving DecidableEq, Repr, Inhabited

/-- The register accesses, one constructor per row of the opcode table. -/
inductive Instr where
  /-- `NCR.read`, offset 0x000 (R190). -/
  | ncrRead (d : Dev)
  /-- `NCR.write`, offset 0x000 (R191). -/
  | ncrWrite (d : Dev) (v : Word)
  /-- `NCFGR`, offset 0x004 (R192). -/
  | ncfgr (d : Dev) (op : MmioOp)
  /-- `DMACFG`, offset 0x010 (R193). -/
  | dmacfg (d : Dev) (op : MmioOp)
  /-- `TSR`, offset 0x014 (R194). -/
  | tsr (d : Dev) (op : MmioOp)
  /-- `RXQBQP`, offset 0x018 (R196). -/
  | rxqbqp (d : Dev) (op : MmioOp)
  /-- `TXQBQP`, offset 0x01C (R195). -/
  | txqbqp (d : Dev) (op : MmioOp)
  /-- `RSR`, offset 0x020 (R197). -/
  | rsr (d : Dev) (op : MmioOp)
  /-- `ISR`, offset 0x024 (R198). -/
  | isr (d : Dev) (op : MmioOp)
  /-- `IER`, offset 0x028 (R199). -/
  | ier (d : Dev) (op : MmioOp)
  /-- `IDR`, offset 0x02C (R200). -/
  | idr (d : Dev) (op : MmioOp)
  /-- `IMR`, offset 0x030 (R201). -/
  | imr (d : Dev) (op : MmioOp)
  /-- `JML`, offset 0x048 (R202). -/
  | jml (d : Dev) (op : MmioOp)
  /-- `HRB`, offset 0x080 (R203). -/
  | hrb (d : Dev) (op : MmioOp)
  /-- `HRT`, offset 0x084 (R203). -/
  | hrt (d : Dev) (op : MmioOp)
  /-- `SA1B`, offset 0x088 (R204). -/
  | sa1b (d : Dev) (op : MmioOp)
  /-- `SA1T`, offset 0x08C (R205). -/
  | sa1t (d : Dev) (op : MmioOp)
  /-- `SA2B`, offset 0x090 (R204). -/
  | sa2b (d : Dev) (op : MmioOp)
  /-- `SA2T`, offset 0x094 (R205). -/
  | sa2t (d : Dev) (op : MmioOp)
  /-- `SA3B`, offset 0x098 (R204). -/
  | sa3b (d : Dev) (op : MmioOp)
  /-- `SA3T`, offset 0x09C (R205). -/
  | sa3t (d : Dev) (op : MmioOp)
  /-- `SA4B`, offset 0x0A0 (R204). -/
  | sa4b (d : Dev) (op : MmioOp)
  /-- `SA4T`, offset 0x0A4 (R205). -/
  | sa4t (d : Dev) (op : MmioOp)
  /-- `TIDM1`, offset 0x0A8 (R206). -/
  | tidm1 (d : Dev) (op : MmioOp)
  /-- `TIDM2`, offset 0x0AC (R206). -/
  | tidm2 (d : Dev) (op : MmioOp)
  /-- `TIDM3`, offset 0x0B0 (R206). -/
  | tidm3 (d : Dev) (op : MmioOp)
  /-- `TIDM4`, offset 0x0B4 (R206). -/
  | tidm4 (d : Dev) (op : MmioOp)
  /-- `STACKED_VLAN`, offset 0x0C0 (R207). -/
  | stackedVlan (d : Dev) (op : MmioOp)
  /-- `RX_PTP_UNICAST`, offset 0x0E0 (R208). -/
  | rxPtpUnicast (d : Dev) (op : MmioOp)
  /-- `TX_PTP_UNICAST`, offset 0x0E4 (R208). -/
  | txPtpUnicast (d : Dev) (op : MmioOp)
  /-- `MODULE_ID`, offset 0x0FC (R209). -/
  | moduleId (d : Dev) (op : MmioOp)
  /-- `OCT_TX_LO`, offset 0x100 (R561). -/
  | octTxLo (d : Dev) (op : MmioOp)
  /-- `OCT_TX_HI`, offset 0x104 (R562). -/
  | octTxHi (d : Dev) (op : MmioOp)
  /-- `FRAMES_TX`, offset 0x108 (R563). -/
  | framesTx (d : Dev) (op : MmioOp)
  /-- `BCAST_TX`, offset 0x10C (R564). -/
  | bcastTx (d : Dev) (op : MmioOp)
  /-- `MCAST_TX`, offset 0x110 (R565). -/
  | mcastTx (d : Dev) (op : MmioOp)
  /-- `PAUSE_TX`, offset 0x114 (R566). -/
  | pauseTx (d : Dev) (op : MmioOp)
  /-- `FRAMES_64_TX`, offset 0x118 (R567). -/
  | frames64Tx (d : Dev) (op : MmioOp)
  /-- `FRAMES_65_127_TX`, offset 0x11C (R568). -/
  | frames65to127Tx (d : Dev) (op : MmioOp)
  /-- `FRAMES_128_255_TX`, offset 0x120 (R569). -/
  | frames128to255Tx (d : Dev) (op : MmioOp)
  /-- `FRAMES_256_511_TX`, offset 0x124 (R570). -/
  | frames256to511Tx (d : Dev) (op : MmioOp)
  /-- `FRAMES_512_1023_TX`, offset 0x128 (R571). -/
  | frames512to1023Tx (d : Dev) (op : MmioOp)
  /-- `FRAMES_1024_1518_TX`, offset 0x12C (R572). -/
  | frames1024to1518Tx (d : Dev) (op : MmioOp)
  /-- `FRAMES_1519_TX`, offset 0x130 (R573). -/
  | frames1519Tx (d : Dev) (op : MmioOp)
  /-- `TX_UNDERRUNS`, offset 0x134 (R574). -/
  | txUnderruns (d : Dev) (op : MmioOp)
  /-- `SINGLE_COLLISIONS`, offset 0x138 (R575). -/
  | singleCollisions (d : Dev) (op : MmioOp)
  /-- `MULTIPLE_COLLISIONS`, offset 0x13C (R576). -/
  | multipleCollisions (d : Dev) (op : MmioOp)
  /-- `EXCESSIVE_COLLISIONS`, offset 0x140 (R577). -/
  | excessiveCollisions (d : Dev) (op : MmioOp)
  /-- `LATE_COLLISIONS`, offset 0x144 (R578). -/
  | lateCollisions (d : Dev) (op : MmioOp)
  /-- `DEFERRED_TX`, offset 0x148 (R579). -/
  | deferredTx (d : Dev) (op : MmioOp)
  /-- `CRS_ERRORS`, offset 0x14C (R580). -/
  | crsErrors (d : Dev) (op : MmioOp)
  /-- `OCT_RX_LO`, offset 0x150 (R581). -/
  | octRxLo (d : Dev) (op : MmioOp)
  /-- `OCT_RX_HI`, offset 0x154 (R582). -/
  | octRxHi (d : Dev) (op : MmioOp)
  /-- `FRAMES_RX`, offset 0x158 (R583). -/
  | framesRx (d : Dev) (op : MmioOp)
  /-- `BCAST_RX`, offset 0x15C (R584). -/
  | bcastRx (d : Dev) (op : MmioOp)
  /-- `MCAST_RX`, offset 0x160 (R585). -/
  | mcastRx (d : Dev) (op : MmioOp)
  /-- `PAUSE_RX`, offset 0x164 (R586). -/
  | pauseRx (d : Dev) (op : MmioOp)
  /-- `FRAMES_64_RX`, offset 0x168 (R587). -/
  | frames64Rx (d : Dev) (op : MmioOp)
  /-- `FRAMES_65_127_RX`, offset 0x16C (R588). -/
  | frames65to127Rx (d : Dev) (op : MmioOp)
  /-- `FRAMES_128_255_RX`, offset 0x170 (R589). -/
  | frames128to255Rx (d : Dev) (op : MmioOp)
  /-- `FRAMES_256_511_RX`, offset 0x174 (R590). -/
  | frames256to511Rx (d : Dev) (op : MmioOp)
  /-- `FRAMES_512_1023_RX`, offset 0x178 (R591). -/
  | frames512to1023Rx (d : Dev) (op : MmioOp)
  /-- `FRAMES_1024_1518_RX`, offset 0x17C (R592). -/
  | frames1024to1518Rx (d : Dev) (op : MmioOp)
  /-- `FRAMES_1519_RX`, offset 0x180 (R593). -/
  | frames1519Rx (d : Dev) (op : MmioOp)
  /-- `UNDERSIZE_RX`, offset 0x184 (R594). -/
  | undersizeRx (d : Dev) (op : MmioOp)
  /-- `OVERSIZE_RX`, offset 0x188 (R595). -/
  | oversizeRx (d : Dev) (op : MmioOp)
  /-- `JABBERS_RX`, offset 0x18C (R596). -/
  | jabbersRx (d : Dev) (op : MmioOp)
  /-- `FCS_ERRORS_RX`, offset 0x190 (R597). -/
  | fcsErrorsRx (d : Dev) (op : MmioOp)
  /-- `LENGTH_ERRORS_RX`, offset 0x194 (R598). -/
  | lengthErrorsRx (d : Dev) (op : MmioOp)
  /-- `SYMBOL_ERRORS_RX`, offset 0x198 (R599). -/
  | symbolErrorsRx (d : Dev) (op : MmioOp)
  /-- `ALIGNMENT_ERRORS_RX`, offset 0x19C (R600). -/
  | alignmentErrorsRx (d : Dev) (op : MmioOp)
  /-- `RESOURCE_ERRORS_RX`, offset 0x1A0 (R601). -/
  | resourceErrorsRx (d : Dev) (op : MmioOp)
  /-- `OVERRUNS_RX`, offset 0x1A4 (R602). -/
  | overrunsRx (d : Dev) (op : MmioOp)
  /-- `IP_CHECKSUM_ERRORS_RX`, offset 0x1A8 (R603). -/
  | ipChecksumErrorsRx (d : Dev) (op : MmioOp)
  /-- `TCP_CHECKSUM_ERRORS_RX`, offset 0x1AC (R604). -/
  | tcpChecksumErrorsRx (d : Dev) (op : MmioOp)
  /-- `UDP_CHECKSUM_ERRORS_RX`, offset 0x1B0 (R605). -/
  | udpChecksumErrorsRx (d : Dev) (op : MmioOp)
  /-- `AUTO_FLUSHED_RX`, offset 0x1B4 (R606). -/
  | autoFlushedRx (d : Dev) (op : MmioOp)
  /-- `TSU_SUB_INC`, offset 0x1BC (R210). -/
  | tsuSubInc (d : Dev) (op : MmioOp)
  /-- `TSU_SEC_HI`, offset 0x1C0 (R211). -/
  | tsuSecHi (d : Dev) (op : MmioOp)
  /-- `TSU_SEC_LO`, offset 0x1D0 (R212). -/
  | tsuSecLo (d : Dev) (op : MmioOp)
  /-- `TSU_NSEC`, offset 0x1D4 (R213). -/
  | tsuNsec (d : Dev) (op : MmioOp)
  /-- `TSU_INC`, offset 0x1DC (R214). -/
  | tsuInc (d : Dev) (op : MmioOp)
  /-- `PTP_TX_SEC`, offset 0x1E0 (R215). -/
  | ptpTxSec (d : Dev) (op : MmioOp)
  /-- `PTP_TX_NSEC`, offset 0x1E4 (R215). -/
  | ptpTxNsec (d : Dev) (op : MmioOp)
  /-- `PTP_RX_SEC`, offset 0x1E8 (R215). -/
  | ptpRxSec (d : Dev) (op : MmioOp)
  /-- `PTP_RX_NSEC`, offset 0x1EC (R215). -/
  | ptpRxNsec (d : Dev) (op : MmioOp)
  /-- `PEER_TX_SEC`, offset 0x1F0 (R215). -/
  | peerTxSec (d : Dev) (op : MmioOp)
  /-- `PEER_TX_NSEC`, offset 0x1F4 (R215). -/
  | peerTxNsec (d : Dev) (op : MmioOp)
  /-- `PEER_RX_SEC`, offset 0x1F8 (R215). -/
  | peerRxSec (d : Dev) (op : MmioOp)
  /-- `PEER_RX_NSEC`, offset 0x1FC (R215). -/
  | peerRxNsec (d : Dev) (op : MmioOp)
  /-- `ISR_Q[1]`, offset 0x400 (R198). -/
  | isrQ1 (d : Dev) (op : MmioOp)
  /-- `ISR_Q[2]`, offset 0x404 (R198). -/
  | isrQ2 (d : Dev) (op : MmioOp)
  /-- `ISR_Q[3]`, offset 0x408 (R198). -/
  | isrQ3 (d : Dev) (op : MmioOp)
  /-- `TXQBQP_Q[1]`, offset 0x440 (R195). -/
  | txqbqpQ1 (d : Dev) (op : MmioOp)
  /-- `TXQBQP_Q[2]`, offset 0x444 (R195). -/
  | txqbqpQ2 (d : Dev) (op : MmioOp)
  /-- `TXQBQP_Q[3]`, offset 0x448 (R195). -/
  | txqbqpQ3 (d : Dev) (op : MmioOp)
  /-- `RXQBQP_Q[1]`, offset 0x480 (R196). -/
  | rxqbqpQ1 (d : Dev) (op : MmioOp)
  /-- `RXQBQP_Q[2]`, offset 0x484 (R196). -/
  | rxqbqpQ2 (d : Dev) (op : MmioOp)
  /-- `RXQBQP_Q[3]`, offset 0x488 (R196). -/
  | rxqbqpQ3 (d : Dev) (op : MmioOp)
  /-- `RXBUF_SIZE_Q[1]`, offset 0x4A0 (R216). -/
  | rxbufSizeQ1 (d : Dev) (op : MmioOp)
  /-- `RXBUF_SIZE_Q[2]`, offset 0x4A4 (R216). -/
  | rxbufSizeQ2 (d : Dev) (op : MmioOp)
  /-- `RXBUF_SIZE_Q[3]`, offset 0x4A8 (R216). -/
  | rxbufSizeQ3 (d : Dev) (op : MmioOp)
  /-- `TX_BD_CONTROL`, offset 0x4CC (R217). -/
  | txBdControl (d : Dev) (op : MmioOp)
  /-- `RX_BD_CONTROL`, offset 0x4D0 (R217). -/
  | rxBdControl (d : Dev) (op : MmioOp)
  /-- `T1[0]`, offset 0x500 (R218). -/
  | t1_0 (d : Dev) (op : MmioOp)
  /-- `T1[1]`, offset 0x504 (R218). -/
  | t1_1 (d : Dev) (op : MmioOp)
  /-- `T1[2]`, offset 0x508 (R218). -/
  | t1_2 (d : Dev) (op : MmioOp)
  /-- `T1[3]`, offset 0x50C (R218). -/
  | t1_3 (d : Dev) (op : MmioOp)
  /-- `T2[0]`, offset 0x540 (R219). -/
  | t2_0 (d : Dev) (op : MmioOp)
  /-- `T2[1]`, offset 0x544 (R219). -/
  | t2_1 (d : Dev) (op : MmioOp)
  /-- `T2[2]`, offset 0x548 (R219). -/
  | t2_2 (d : Dev) (op : MmioOp)
  /-- `T2[3]`, offset 0x54C (R219). -/
  | t2_3 (d : Dev) (op : MmioOp)
  /-- `IER_Q[1]`, offset 0x600 (R199). -/
  | ierQ1 (d : Dev) (op : MmioOp)
  /-- `IER_Q[2]`, offset 0x604 (R199). -/
  | ierQ2 (d : Dev) (op : MmioOp)
  /-- `IER_Q[3]`, offset 0x608 (R199). -/
  | ierQ3 (d : Dev) (op : MmioOp)
  /-- `IDR_Q[1]`, offset 0x620 (R200). -/
  | idrQ1 (d : Dev) (op : MmioOp)
  /-- `IDR_Q[2]`, offset 0x624 (R200). -/
  | idrQ2 (d : Dev) (op : MmioOp)
  /-- `IDR_Q[3]`, offset 0x628 (R200). -/
  | idrQ3 (d : Dev) (op : MmioOp)
  /-- `IMR_Q[1]`, offset 0x640 (R201). -/
  | imrQ1 (d : Dev) (op : MmioOp)
  /-- `IMR_Q[2]`, offset 0x644 (R201). -/
  | imrQ2 (d : Dev) (op : MmioOp)
  /-- `IMR_Q[3]`, offset 0x648 (R201). -/
  | imrQ3 (d : Dev) (op : MmioOp)
  /-- `ETHTYPE[0]`, offset 0x6E0 (R220). -/
  | ethtype_0 (d : Dev) (op : MmioOp)
  /-- `ETHTYPE[1]`, offset 0x6E4 (R220). -/
  | ethtype_1 (d : Dev) (op : MmioOp)
  /-- `ETHTYPE[2]`, offset 0x6E8 (R220). -/
  | ethtype_2 (d : Dev) (op : MmioOp)
  /-- `ETHTYPE[3]`, offset 0x6EC (R220). -/
  | ethtype_3 (d : Dev) (op : MmioOp)
  /-- `CMP_W0[0]`, offset 0x700 (R221). -/
  | cmpW0_0 (d : Dev) (op : MmioOp)
  /-- `CMP_W1[0]`, offset 0x704 (R221). -/
  | cmpW1_0 (d : Dev) (op : MmioOp)
  /-- `CMP_W0[1]`, offset 0x708 (R221). -/
  | cmpW0_1 (d : Dev) (op : MmioOp)
  /-- `CMP_W1[1]`, offset 0x70C (R221). -/
  | cmpW1_1 (d : Dev) (op : MmioOp)
  /-- `CMP_W0[2]`, offset 0x710 (R221). -/
  | cmpW0_2 (d : Dev) (op : MmioOp)
  /-- `CMP_W1[2]`, offset 0x714 (R221). -/
  | cmpW1_2 (d : Dev) (op : MmioOp)
  /-- `CMP_W0[3]`, offset 0x718 (R221). -/
  | cmpW0_3 (d : Dev) (op : MmioOp)
  /-- `CMP_W1[3]`, offset 0x71C (R221). -/
  | cmpW1_3 (d : Dev) (op : MmioOp)
  /-- `CMP_W0[4]`, offset 0x720 (R221). -/
  | cmpW0_4 (d : Dev) (op : MmioOp)
  /-- `CMP_W1[4]`, offset 0x724 (R221). -/
  | cmpW1_4 (d : Dev) (op : MmioOp)
  /-- `CMP_W0[5]`, offset 0x728 (R221). -/
  | cmpW0_5 (d : Dev) (op : MmioOp)
  /-- `CMP_W1[5]`, offset 0x72C (R221). -/
  | cmpW1_5 (d : Dev) (op : MmioOp)
  /-- `CMP_W0[6]`, offset 0x730 (R221). -/
  | cmpW0_6 (d : Dev) (op : MmioOp)
  /-- `CMP_W1[6]`, offset 0x734 (R221). -/
  | cmpW1_6 (d : Dev) (op : MmioOp)
  /-- `CMP_W0[7]`, offset 0x738 (R221). -/
  | cmpW0_7 (d : Dev) (op : MmioOp)
  /-- `CMP_W1[7]`, offset 0x73C (R221). -/
  | cmpW1_7 (d : Dev) (op : MmioOp)
  /-- `CMP_W0[8]`, offset 0x740 (R221). -/
  | cmpW0_8 (d : Dev) (op : MmioOp)
  /-- `CMP_W1[8]`, offset 0x744 (R221). -/
  | cmpW1_8 (d : Dev) (op : MmioOp)
  /-- `CMP_W0[9]`, offset 0x748 (R221). -/
  | cmpW0_9 (d : Dev) (op : MmioOp)
  /-- `CMP_W1[9]`, offset 0x74C (R221). -/
  | cmpW1_9 (d : Dev) (op : MmioOp)
  /-- `CMP_W0[10]`, offset 0x750 (R221). -/
  | cmpW0_10 (d : Dev) (op : MmioOp)
  /-- `CMP_W1[10]`, offset 0x754 (R221). -/
  | cmpW1_10 (d : Dev) (op : MmioOp)
  /-- `CMP_W0[11]`, offset 0x758 (R221). -/
  | cmpW0_11 (d : Dev) (op : MmioOp)
  /-- `CMP_W1[11]`, offset 0x75C (R221). -/
  | cmpW1_11 (d : Dev) (op : MmioOp)
  /-- `MMSL_CONTROL`, offset 0x800 (R222). -/
  | mmslControl (d : Dev) (op : MmioOp)
  /-- `MMSL_STATUS`, offset 0x804 (R223). -/
  | mmslStatus (d : Dev) (op : MmioOp)
  /-- `MMSL_ASS_ERR`, offset 0x808 (R224). -/
  | mmslAssErr (d : Dev) (op : MmioOp)
  /-- `MMSL_ASS_OK`, offset 0x80C (R224). -/
  | mmslAssOk (d : Dev) (op : MmioOp)
  /-- `MMSL_FRAG_RX`, offset 0x810 (R224). -/
  | mmslFragRx (d : Dev) (op : MmioOp)
  /-- `MMSL_FRAG_TX`, offset 0x814 (R224). -/
  | mmslFragTx (d : Dev) (op : MmioOp)
  /-- `MMSL_INT_STATUS`, offset 0x818 (R225). -/
  | mmslIntStatus (d : Dev) (op : MmioOp)
  /-- `MMSL_INT_EN`, offset 0x81C (R226). -/
  | mmslIntEn (d : Dev) (op : MmioOp)
  /-- `MMSL_INT_DIS`, offset 0x820 (R226). -/
  | mmslIntDis (d : Dev) (op : MmioOp)
  /-- `MMSL_INT_MASK`, offset 0x824 (R226). -/
  | mmslIntMask (d : Dev) (op : MmioOp)
deriving DecidableEq, Repr, Inhabited

/-- What every row shows of itself: the register's offset, the device and the access. -/
structure AccessParts where
  off : Nat
  dev : Dev
  op  : MmioOp
deriving DecidableEq, Repr

/-- The offset, device and access an instruction names (the `match` column of the opcode table, less bit 15). -/
def Instr.parts : Instr → AccessParts
  | .ncrRead d => ⟨0x000, d, .read⟩
  | .ncrWrite d v => ⟨0x000, d, .write v⟩
  | .ncfgr d op => ⟨0x004, d, op⟩
  | .dmacfg d op => ⟨0x010, d, op⟩
  | .tsr d op => ⟨0x014, d, op⟩
  | .rxqbqp d op => ⟨0x018, d, op⟩
  | .txqbqp d op => ⟨0x01C, d, op⟩
  | .rsr d op => ⟨0x020, d, op⟩
  | .isr d op => ⟨0x024, d, op⟩
  | .ier d op => ⟨0x028, d, op⟩
  | .idr d op => ⟨0x02C, d, op⟩
  | .imr d op => ⟨0x030, d, op⟩
  | .jml d op => ⟨0x048, d, op⟩
  | .hrb d op => ⟨0x080, d, op⟩
  | .hrt d op => ⟨0x084, d, op⟩
  | .sa1b d op => ⟨0x088, d, op⟩
  | .sa1t d op => ⟨0x08C, d, op⟩
  | .sa2b d op => ⟨0x090, d, op⟩
  | .sa2t d op => ⟨0x094, d, op⟩
  | .sa3b d op => ⟨0x098, d, op⟩
  | .sa3t d op => ⟨0x09C, d, op⟩
  | .sa4b d op => ⟨0x0A0, d, op⟩
  | .sa4t d op => ⟨0x0A4, d, op⟩
  | .tidm1 d op => ⟨0x0A8, d, op⟩
  | .tidm2 d op => ⟨0x0AC, d, op⟩
  | .tidm3 d op => ⟨0x0B0, d, op⟩
  | .tidm4 d op => ⟨0x0B4, d, op⟩
  | .stackedVlan d op => ⟨0x0C0, d, op⟩
  | .rxPtpUnicast d op => ⟨0x0E0, d, op⟩
  | .txPtpUnicast d op => ⟨0x0E4, d, op⟩
  | .moduleId d op => ⟨0x0FC, d, op⟩
  | .octTxLo d op => ⟨0x100, d, op⟩
  | .octTxHi d op => ⟨0x104, d, op⟩
  | .framesTx d op => ⟨0x108, d, op⟩
  | .bcastTx d op => ⟨0x10C, d, op⟩
  | .mcastTx d op => ⟨0x110, d, op⟩
  | .pauseTx d op => ⟨0x114, d, op⟩
  | .frames64Tx d op => ⟨0x118, d, op⟩
  | .frames65to127Tx d op => ⟨0x11C, d, op⟩
  | .frames128to255Tx d op => ⟨0x120, d, op⟩
  | .frames256to511Tx d op => ⟨0x124, d, op⟩
  | .frames512to1023Tx d op => ⟨0x128, d, op⟩
  | .frames1024to1518Tx d op => ⟨0x12C, d, op⟩
  | .frames1519Tx d op => ⟨0x130, d, op⟩
  | .txUnderruns d op => ⟨0x134, d, op⟩
  | .singleCollisions d op => ⟨0x138, d, op⟩
  | .multipleCollisions d op => ⟨0x13C, d, op⟩
  | .excessiveCollisions d op => ⟨0x140, d, op⟩
  | .lateCollisions d op => ⟨0x144, d, op⟩
  | .deferredTx d op => ⟨0x148, d, op⟩
  | .crsErrors d op => ⟨0x14C, d, op⟩
  | .octRxLo d op => ⟨0x150, d, op⟩
  | .octRxHi d op => ⟨0x154, d, op⟩
  | .framesRx d op => ⟨0x158, d, op⟩
  | .bcastRx d op => ⟨0x15C, d, op⟩
  | .mcastRx d op => ⟨0x160, d, op⟩
  | .pauseRx d op => ⟨0x164, d, op⟩
  | .frames64Rx d op => ⟨0x168, d, op⟩
  | .frames65to127Rx d op => ⟨0x16C, d, op⟩
  | .frames128to255Rx d op => ⟨0x170, d, op⟩
  | .frames256to511Rx d op => ⟨0x174, d, op⟩
  | .frames512to1023Rx d op => ⟨0x178, d, op⟩
  | .frames1024to1518Rx d op => ⟨0x17C, d, op⟩
  | .frames1519Rx d op => ⟨0x180, d, op⟩
  | .undersizeRx d op => ⟨0x184, d, op⟩
  | .oversizeRx d op => ⟨0x188, d, op⟩
  | .jabbersRx d op => ⟨0x18C, d, op⟩
  | .fcsErrorsRx d op => ⟨0x190, d, op⟩
  | .lengthErrorsRx d op => ⟨0x194, d, op⟩
  | .symbolErrorsRx d op => ⟨0x198, d, op⟩
  | .alignmentErrorsRx d op => ⟨0x19C, d, op⟩
  | .resourceErrorsRx d op => ⟨0x1A0, d, op⟩
  | .overrunsRx d op => ⟨0x1A4, d, op⟩
  | .ipChecksumErrorsRx d op => ⟨0x1A8, d, op⟩
  | .tcpChecksumErrorsRx d op => ⟨0x1AC, d, op⟩
  | .udpChecksumErrorsRx d op => ⟨0x1B0, d, op⟩
  | .autoFlushedRx d op => ⟨0x1B4, d, op⟩
  | .tsuSubInc d op => ⟨0x1BC, d, op⟩
  | .tsuSecHi d op => ⟨0x1C0, d, op⟩
  | .tsuSecLo d op => ⟨0x1D0, d, op⟩
  | .tsuNsec d op => ⟨0x1D4, d, op⟩
  | .tsuInc d op => ⟨0x1DC, d, op⟩
  | .ptpTxSec d op => ⟨0x1E0, d, op⟩
  | .ptpTxNsec d op => ⟨0x1E4, d, op⟩
  | .ptpRxSec d op => ⟨0x1E8, d, op⟩
  | .ptpRxNsec d op => ⟨0x1EC, d, op⟩
  | .peerTxSec d op => ⟨0x1F0, d, op⟩
  | .peerTxNsec d op => ⟨0x1F4, d, op⟩
  | .peerRxSec d op => ⟨0x1F8, d, op⟩
  | .peerRxNsec d op => ⟨0x1FC, d, op⟩
  | .isrQ1 d op => ⟨0x400, d, op⟩
  | .isrQ2 d op => ⟨0x404, d, op⟩
  | .isrQ3 d op => ⟨0x408, d, op⟩
  | .txqbqpQ1 d op => ⟨0x440, d, op⟩
  | .txqbqpQ2 d op => ⟨0x444, d, op⟩
  | .txqbqpQ3 d op => ⟨0x448, d, op⟩
  | .rxqbqpQ1 d op => ⟨0x480, d, op⟩
  | .rxqbqpQ2 d op => ⟨0x484, d, op⟩
  | .rxqbqpQ3 d op => ⟨0x488, d, op⟩
  | .rxbufSizeQ1 d op => ⟨0x4A0, d, op⟩
  | .rxbufSizeQ2 d op => ⟨0x4A4, d, op⟩
  | .rxbufSizeQ3 d op => ⟨0x4A8, d, op⟩
  | .txBdControl d op => ⟨0x4CC, d, op⟩
  | .rxBdControl d op => ⟨0x4D0, d, op⟩
  | .t1_0 d op => ⟨0x500, d, op⟩
  | .t1_1 d op => ⟨0x504, d, op⟩
  | .t1_2 d op => ⟨0x508, d, op⟩
  | .t1_3 d op => ⟨0x50C, d, op⟩
  | .t2_0 d op => ⟨0x540, d, op⟩
  | .t2_1 d op => ⟨0x544, d, op⟩
  | .t2_2 d op => ⟨0x548, d, op⟩
  | .t2_3 d op => ⟨0x54C, d, op⟩
  | .ierQ1 d op => ⟨0x600, d, op⟩
  | .ierQ2 d op => ⟨0x604, d, op⟩
  | .ierQ3 d op => ⟨0x608, d, op⟩
  | .idrQ1 d op => ⟨0x620, d, op⟩
  | .idrQ2 d op => ⟨0x624, d, op⟩
  | .idrQ3 d op => ⟨0x628, d, op⟩
  | .imrQ1 d op => ⟨0x640, d, op⟩
  | .imrQ2 d op => ⟨0x644, d, op⟩
  | .imrQ3 d op => ⟨0x648, d, op⟩
  | .ethtype_0 d op => ⟨0x6E0, d, op⟩
  | .ethtype_1 d op => ⟨0x6E4, d, op⟩
  | .ethtype_2 d op => ⟨0x6E8, d, op⟩
  | .ethtype_3 d op => ⟨0x6EC, d, op⟩
  | .cmpW0_0 d op => ⟨0x700, d, op⟩
  | .cmpW1_0 d op => ⟨0x704, d, op⟩
  | .cmpW0_1 d op => ⟨0x708, d, op⟩
  | .cmpW1_1 d op => ⟨0x70C, d, op⟩
  | .cmpW0_2 d op => ⟨0x710, d, op⟩
  | .cmpW1_2 d op => ⟨0x714, d, op⟩
  | .cmpW0_3 d op => ⟨0x718, d, op⟩
  | .cmpW1_3 d op => ⟨0x71C, d, op⟩
  | .cmpW0_4 d op => ⟨0x720, d, op⟩
  | .cmpW1_4 d op => ⟨0x724, d, op⟩
  | .cmpW0_5 d op => ⟨0x728, d, op⟩
  | .cmpW1_5 d op => ⟨0x72C, d, op⟩
  | .cmpW0_6 d op => ⟨0x730, d, op⟩
  | .cmpW1_6 d op => ⟨0x734, d, op⟩
  | .cmpW0_7 d op => ⟨0x738, d, op⟩
  | .cmpW1_7 d op => ⟨0x73C, d, op⟩
  | .cmpW0_8 d op => ⟨0x740, d, op⟩
  | .cmpW1_8 d op => ⟨0x744, d, op⟩
  | .cmpW0_9 d op => ⟨0x748, d, op⟩
  | .cmpW1_9 d op => ⟨0x74C, d, op⟩
  | .cmpW0_10 d op => ⟨0x750, d, op⟩
  | .cmpW1_10 d op => ⟨0x754, d, op⟩
  | .cmpW0_11 d op => ⟨0x758, d, op⟩
  | .cmpW1_11 d op => ⟨0x75C, d, op⟩
  | .mmslControl d op => ⟨0x800, d, op⟩
  | .mmslStatus d op => ⟨0x804, d, op⟩
  | .mmslAssErr d op => ⟨0x808, d, op⟩
  | .mmslAssOk d op => ⟨0x80C, d, op⟩
  | .mmslFragRx d op => ⟨0x810, d, op⟩
  | .mmslFragTx d op => ⟨0x814, d, op⟩
  | .mmslIntStatus d op => ⟨0x818, d, op⟩
  | .mmslIntEn d op => ⟨0x81C, d, op⟩
  | .mmslIntDis d op => ⟨0x820, d, op⟩
  | .mmslIntMask d op => ⟨0x824, d, op⟩

/-- The register's byte offset in the device's window. -/
def Instr.off (i : Instr) : Nat := i.parts.off

/-- The device whose window is accessed. -/
def Instr.dev (i : Instr) : Dev := i.parts.dev

/-- The access: a read, or a write with its data. -/
def Instr.op (i : Instr) : MmioOp := i.parts.op

end Sys2Proof
end

