-- ==== Sys2Proof/Machine/Input.lean ====
section
/-! DEFINITION. The inputs of the machine: everything that can make one of its agents take a step (30_encoding R170,
47_driver_contract R620), each with the draws of that step as operands (R171: "one agent step of rule R170 with its
draws given as arguments"). Plain data. -/

namespace Sys2Proof

/-- The 32-bit statistics counters (46_statistics R563-R580, R583-R606); the 48-bit octet pairs stand apart (R561). -/
inductive Stat where
  | framesTx | bcastTx | mcastTx | pauseTx | frames64Tx | frames65to127Tx
  | frames128to255Tx | frames256to511Tx | frames512to1023Tx | frames1024to1518Tx | frames1519Tx | txUnderruns
  | singleCollisions | multipleCollisions | excessiveCollisions | lateCollisions | deferredTx | crsErrors
  | framesRx | bcastRx | mcastRx | pauseRx | frames64Rx | frames65to127Rx
  | frames128to255Rx | frames256to511Rx | frames512to1023Rx | frames1024to1518Rx | frames1519Rx | undersizeRx
  | oversizeRx | jabbersRx | fcsErrorsRx | lengthErrorsRx | symbolErrorsRx | alignmentErrorsRx
  | resourceErrorsRx | overrunsRx | ipChecksumErrorsRx | tcpChecksumErrorsRx | udpChecksumErrorsRx | autoFlushedRx
deriving DecidableEq, Repr, Inhabited

/-- The traffic class of a frame on the line (45_mmsl R537). -/
inductive Cls where
  | express | preemptable
deriving DecidableEq, Repr, Inhabited

/-- The outcome of a transmission (41_tx_ring R322); `busErr` only by R324 (b). -/
inductive TxOutcome where
  | ok (collisions : Nat)
  | und
  | lco
  | rle
  | busErr
deriving DecidableEq, Repr, Inhabited

/-- The draws of one pass of a frame through the receive path. `overrun`: R371. `route`: the queue, or none for drop,
of R420. `tests`: the results of Type-2 tests whose register does not exist (R431), four for each filter. `runtFcs`:
whether a frame too short to hold an FCS counts as having a good one (R407; log 16). `errs`: which of the step's DMA
accesses the memory oracle answers with BusErr, numbered from 0 in the step's order (20_memory R122; log 12). -/
structure RxDraws where
  overrun : Bool
  route   : Option Nat
  tests   : List Bool
  runtFcs : Bool
  errs    : List Nat
deriving DecidableEq, Repr, Inhabited

/-- The draws of one `TX_DONE` step: the outcome (R322), the number of fragments of a preemptable frame (R538), the
BusErr answers of the write-back (R324 (c)) and the draws of the receive path of a looped back frame (R333). -/
structure TxDraws where
  outcome : TxOutcome
  frags   : Nat
  errs    : List Nat
  loop    : RxDraws
deriving DecidableEq, Repr, Inhabited

/-- A frame the line offers to a physical MAC (42_rx_ring R355): its bytes with the FCS, its class, the number of
fragments it came in and whether reassembly failed. -/
structure Arrival where
  frame : List Byte
  cls   : Cls
  frags : Nat
  aerr  : Bool
deriving DecidableEq, Repr, Inhabited

/-- One step of one agent. -/
inductive Input where
  /-- Host register access, as a transaction word (Decode.lean; log 1). -/
  | mmio (t : BitVec 64)
  /-- Host register access at a bus address, `size` bytes wide (20_memory R100, R101). -/
  | bus (addr : Word) (size : Nat) (op : MmioOp)
  /-- Host store of bytes to system memory (`M32`, `MB` of R171; R706). -/
  | hostStore (addr : Word) (bytes : List Byte)
  /-- Host load of a little-endian word of system memory (`RM32` of R171; R706). -/
  | hostLoad (addr : Word)
  /-- `TX_FETCH(q)` (41_tx_ring R310) with the oracle's BusErr answers. -/
  | txFetch (d : Dev) (q : Fin 4) (errs : List Nat)
  /-- `TX_DONE(q)` (R320). -/
  | txDone (d : Dev) (q : Fin 4) (dr : TxDraws)
  /-- `RX_FRAME(m, f, cls, k, aerr)` (42_rx_ring R355). -/
  | rxFrame (m : Mac) (a : Arrival) (dr : RxDraws)
  /-- `TSU_TICK` (44_tsu R462). -/
  | tsuTick (d : Dev)
  /-- `MM_SEND_VERIFY` (45_mmsl R529). -/
  | mmSendVerify (m : Mac)
  /-- `MM_TIMEOUT` (R530). -/
  | mmTimeout (m : Mac)
  /-- `MM_RX_RESPOND` (R531). -/
  | mmRxRespond (m : Mac)
  /-- `MM_RX_VERIFY` (R532). -/
  | mmRxVerify (m : Mac)
  /-- `MM_SEND_RESPOND` (R533). -/
  | mmSendRespond (m : Mac)
  /-- `LINE_EVENT(c)` (46_statistics R607). -/
  | lineEvent (d : Dev) (c : Stat)
  /-- The hardware reset of the whole block (70_reset R700). -/
  | hwReset
deriving DecidableEq, Repr, Inhabited

/-- An event the block gives to the line: a frame (41_tx_ring R327), or a verify or respond mPacket (R529, R533). -/
inductive LineOut where
  | txOut (d : Dev) (frame : List Byte) (cls : Cls)
  | verify (m : Mac)
  | respond (m : Mac)
deriving DecidableEq, Repr, Inhabited

end Sys2Proof
end

