-- ==== Sys2Proof/Config.lean ====
section
/-! DEFINITION. What an implementation fixes (00_scope R7, R8) and the free values. A parameter with a default stands in
`Params`, which `State` carries and no step changes. A parameter the spec leaves OPEN, and every value it leaves to a
free draw outside the inputs, is a constant with no body: nothing can be proved of its value. -/

namespace Sys2Proof

/-- `STAT_OVERFLOW` (R7): what a counter does at all ones (46_statistics R560). -/
inductive StatOverflow where
  | wrap | saturate
deriving DecidableEq, Repr, Inhabited

/-- The parameters with defaults (R7), and the ranges of system memory, each a first address and a length, that the
platform does not back (20_memory R109; log 12). -/
structure Params where
  nqPmac0    : Nat
  nqEmac0    : Nat
  nqPmac1    : Nat
  nqEmac1    : Nat
  nsRollover : Nat
  verifyLimit : Nat
  nT1        : Nat
  nT2        : Nat
  nEth       : Nat
  nCmp       : Nat
  holes      : List (Nat × Nat)
deriving DecidableEq, Repr, Inhabited

/-- `N_QUEUES(d)` (R7). -/
def Params.nQueues (c : Params) : Dev → Nat
  | .pmac0 => c.nqPmac0
  | .emac0 => c.nqEmac0
  | .pmac1 => c.nqPmac1
  | .emac1 => c.nqEmac1

/-- The constraints a configuration must meet (R8, and the ranges of R7); one outside them is refused. The constraint
on `JUMBO_LIMIT` holds by construction (`Config.jumboLimit`). -/
def Params.ok (c : Params) : Bool :=
  decide (1 ≤ c.nqPmac0 ∧ c.nqPmac0 ≤ 4) && decide (1 ≤ c.nqEmac0 ∧ c.nqEmac0 ≤ 4)
    && decide (1 ≤ c.nqPmac1 ∧ c.nqPmac1 ≤ 4) && decide (1 ≤ c.nqEmac1 ∧ c.nqEmac1 ≤ 4)
    && decide (511 < c.nsRollover)
    && decide (1 ≤ c.nT1 ∧ c.nT1 ≤ 16) && decide (1 ≤ c.nT2 ∧ c.nT2 ≤ 16)
    && decide (1 ≤ c.nEth ∧ c.nEth ≤ 8) && decide (1 ≤ c.nCmp ∧ c.nCmp ≤ 32)

namespace Config

/-- The defaults of R7; the platform backs all of memory (DESIGN CHOICE, log 12). -/
def defaultParams : Params where
  nqPmac0 := 4
  nqEmac0 := 1
  nqPmac1 := 4
  nqEmac1 := 1
  nsRollover := 1000000000
  verifyLimit := 3
  nT1 := 4
  nT2 := 4
  nEth := 4
  nCmp := 12
  holes := []

/-- How far `JUMBO_LIMIT` lies above 10,240 (R7, R8: OPEN between 10,240 and 16,383). -/
opaque jumboSpare : Fin 6144

/-- `JUMBO_LIMIT`: the largest value software may write to JML (R7, R8). -/
def jumboLimit : Nat := 10240 + jumboSpare.val

/-- `STAT_OVERFLOW` (R7: OPEN). -/
opaque statOverflow : StatOverflow

/-- `DMA_COHERENT` (R7: OPEN). No rule of the block reads it (20_memory R118): a host store is at once visible to
the DMA either way (R114). -/
opaque dmaCoherent : Bool

/-- `MODULE_ID` (R7: OPEN; R48). -/
opaque moduleId : Word

/-- `BASE(d)` (R7: OPEN; 20_memory R100); its width is the model's (DESIGN CHOICE, log 6). -/
opaque base : Dev → Word

/-- `OSS_ADJUST_DELTA(SEC, NS, G)` modulo 2^64 (R7: OPEN; 44_tsu R492). -/
opaque ossAdjustDelta : BitVec 64 → BitVec 30 → List Byte → BitVec 64

/-- The value of the `n`-th read of an unmapped offset (30_encoding R143: a free draw). -/
opaque unmappedRead : Nat → Word

/-- The outside world: the `n`-th free step of an agent (R170: any step whose enabling condition holds may be taken).
The machine asks it when no input is pending (log 2). -/
opaque environment : Nat → Input

/-- What a byte of memory that nothing has written reads as (DESIGN CHOICE, log 5; the convention of
95_test_vectors.md). -/
def unwrittenByte : Byte := 0

end Config

end Sys2Proof
end

