-- ==== Sys2Proof/WellFormed.lean ====
section
/-! DEFINITION. Which register accesses name a register that exists: the conditions of 10_state R31 and R33, the
`exists` column of the opcode table. An access that is not well formed is unmapped (30_encoding R142, R143). -/

namespace Sys2Proof

/-- `HAS_MMSL(d)` (00_scope R7): the pMACs. -/
def Dev.hasMmsl : Dev → Bool
  | .pmac0 => true
  | .emac0 => false
  | .pmac1 => true
  | .emac1 => false

/-- `offset` lies in a family of `stride`-byte rows at `[first, last)`; the row's number then meets `p`. Outside the
family nothing is asked. -/
def rowOk (first last stride : Nat) (p : Nat → Bool) (off : Nat) : Bool :=
  !(decide (first ≤ off) && decide (off < last)) || p ((off - first) / stride)

/-- The register of the opcode table at `off` exists for device `d` (R31, R33). -/
def regExists (c : Params) (d : Dev) (off : Nat) : Bool :=
  let queue : Nat → Bool := fun n => decide (n + 1 < c.nQueues d)
  rowOk 0x400 0x440 4 queue off          -- ISR_Q
    && rowOk 0x440 0x480 4 queue off     -- TXQBQP_Q
    && rowOk 0x480 0x4A0 4 queue off     -- RXQBQP_Q
    && rowOk 0x4A0 0x4C0 4 queue off     -- RXBUF_SIZE_Q
    && rowOk 0x500 0x540 4 (fun n => decide (n < c.nT1)) off
    && rowOk 0x540 0x580 4 (fun n => decide (n < c.nT2)) off
    && rowOk 0x600 0x620 4 queue off     -- IER_Q
    && rowOk 0x620 0x640 4 queue off     -- IDR_Q
    && rowOk 0x640 0x660 4 queue off     -- IMR_Q
    && rowOk 0x6E0 0x700 4 (fun n => decide (n < c.nEth)) off
    && rowOk 0x700 0x800 8 (fun n => decide (n < c.nCmp)) off
    && rowOk 0x800 0x828 4 (fun _ => d.hasMmsl) off

/-- The access names a register that exists for its device (R142). -/
def Instr.wellFormed (c : Params) (i : Instr) : Bool := regExists c i.dev i.off

end Sys2Proof
end

