-- ==== Sys2Proof/Decode.lean ====
section
/-! DEFINITION. Decoding and encoding of register accesses. A host access reaches the block as one 64-bit transaction
word (the layout above bit 15 is the model's, log 1):

    bits 15:0   the access key K = W, off[14:0] (30_encoding R141)
    bits 17:16  the device, in the order of 10_state R31: 0 pMAC0, 1 eMAC0, 2 pMAC1, 3 eMAC1
    bits 31:18  the access size: 0 is a 32-bit access, any other value an access of another width
    bits 63:32  the data of a write

Decoding is total: what is no row of the opcode table is rejected by name. -/

namespace Sys2Proof

/-- Why a transaction is no row of the opcode table. -/
inductive Reject where
  /-- Not a 32-bit access, or not at a multiple of 4 (20_memory R101). -/
  | notWordAccess
  /-- No row of the table has this offset (R142). -/
  | unlisted (d : Dev) (off : Nat) (op : MmioOp)
deriving DecidableEq, Repr

/-- The device a transaction's two device bits select. -/
def Dev.ofCode (b : BitVec 2) : Dev :=
  if b = 0#2 then .pmac0 else if b = 1#2 then .emac0 else if b = 2#2 then .pmac1 else .emac1

/-- The two device bits of a transaction. -/
def Dev.code : Dev → BitVec 2
  | .pmac0 => 0#2
  | .emac0 => 1#2
  | .pmac1 => 2#2
  | .emac1 => 3#2

/-- A row of the opcode table: the register's offset and the instruction it makes of a device and an access. -/
abbrev Row := Nat × (Dev → MmioOp → Instr)

/-- NCR has one row for each direction (mask 0xFFFF). -/
def ncrAccess (d : Dev) : MmioOp → Instr
  | .read => .ncrRead d
  | .write v => .ncrWrite d v

/-- Control, status, queue 0 and interrupt registers. -/
def rowsControl : List Row :=
  [(0x000, ncrAccess),
   (0x004, .ncfgr),
   (0x010, .dmacfg),
   (0x014, .tsr),
   (0x018, .rxqbqp),
   (0x01C, .txqbqp),
   (0x020, .rsr),
   (0x024, .isr),
   (0x028, .ier),
   (0x02C, .idr),
   (0x030, .imr),
   (0x048, .jml)]

/-- Address filters, type-ID, VLAN, PTP unicast and identification. -/
def rowsFilter : List Row :=
  [(0x080, .hrb),
   (0x084, .hrt),
   (0x088, .sa1b),
   (0x08C, .sa1t),
   (0x090, .sa2b),
   (0x094, .sa2t),
   (0x098, .sa3b),
   (0x09C, .sa3t),
   (0x0A0, .sa4b),
   (0x0A4, .sa4t),
   (0x0A8, .tidm1),
   (0x0AC, .tidm2),
   (0x0B0, .tidm3),
   (0x0B4, .tidm4),
   (0x0C0, .stackedVlan),
   (0x0E0, .rxPtpUnicast),
   (0x0E4, .txPtpUnicast),
   (0x0FC, .moduleId)]

/-- Transmit statistics (R561-R580). -/
def rowsTxStat : List Row :=
  [(0x100, .octTxLo),
   (0x104, .octTxHi),
   (0x108, .framesTx),
   (0x10C, .bcastTx),
   (0x110, .mcastTx),
   (0x114, .pauseTx),
   (0x118, .frames64Tx),
   (0x11C, .frames65to127Tx),
   (0x120, .frames128to255Tx),
   (0x124, .frames256to511Tx),
   (0x128, .frames512to1023Tx),
   (0x12C, .frames1024to1518Tx),
   (0x130, .frames1519Tx),
   (0x134, .txUnderruns),
   (0x138, .singleCollisions),
   (0x13C, .multipleCollisions),
   (0x140, .excessiveCollisions),
   (0x144, .lateCollisions),
   (0x148, .deferredTx),
   (0x14C, .crsErrors)]

/-- Receive statistics (R581-R606). -/
def rowsRxStat : List Row :=
  [(0x150, .octRxLo),
   (0x154, .octRxHi),
   (0x158, .framesRx),
   (0x15C, .bcastRx),
   (0x160, .mcastRx),
   (0x164, .pauseRx),
   (0x168, .frames64Rx),
   (0x16C, .frames65to127Rx),
   (0x170, .frames128to255Rx),
   (0x174, .frames256to511Rx),
   (0x178, .frames512to1023Rx),
   (0x17C, .frames1024to1518Rx),
   (0x180, .frames1519Rx),
   (0x184, .undersizeRx),
   (0x188, .oversizeRx),
   (0x18C, .jabbersRx),
   (0x190, .fcsErrorsRx),
   (0x194, .lengthErrorsRx),
   (0x198, .symbolErrorsRx),
   (0x19C, .alignmentErrorsRx),
   (0x1A0, .resourceErrorsRx),
   (0x1A4, .overrunsRx),
   (0x1A8, .ipChecksumErrorsRx),
   (0x1AC, .tcpChecksumErrorsRx),
   (0x1B0, .udpChecksumErrorsRx),
   (0x1B4, .autoFlushedRx)]

/-- TSU and PTP event registers. -/
def rowsTsu : List Row :=
  [(0x1BC, .tsuSubInc),
   (0x1C0, .tsuSecHi),
   (0x1D0, .tsuSecLo),
   (0x1D4, .tsuNsec),
   (0x1DC, .tsuInc),
   (0x1E0, .ptpTxSec),
   (0x1E4, .ptpTxNsec),
   (0x1E8, .ptpRxSec),
   (0x1EC, .ptpRxNsec),
   (0x1F0, .peerTxSec),
   (0x1F4, .peerTxNsec),
   (0x1F8, .peerRxSec),
   (0x1FC, .peerRxNsec)]

/-- Queue copies and timestamp capture. -/
def rowsQueue : List Row :=
  [(0x400, .isrQ1),
   (0x404, .isrQ2),
   (0x408, .isrQ3),
   (0x440, .txqbqpQ1),
   (0x444, .txqbqpQ2),
   (0x448, .txqbqpQ3),
   (0x480, .rxqbqpQ1),
   (0x484, .rxqbqpQ2),
   (0x488, .rxqbqpQ3),
   (0x4A0, .rxbufSizeQ1),
   (0x4A4, .rxbufSizeQ2),
   (0x4A8, .rxbufSizeQ3),
   (0x4CC, .txBdControl),
   (0x4D0, .rxBdControl)]

/-- Screeners and interrupt copies. -/
def rowsScreen : List Row :=
  [(0x500, .t1_0),
   (0x504, .t1_1),
   (0x508, .t1_2),
   (0x50C, .t1_3),
   (0x540, .t2_0),
   (0x544, .t2_1),
   (0x548, .t2_2),
   (0x54C, .t2_3),
   (0x600, .ierQ1),
   (0x604, .ierQ2),
   (0x608, .ierQ3),
   (0x620, .idrQ1),
   (0x624, .idrQ2),
   (0x628, .idrQ3),
   (0x640, .imrQ1),
   (0x644, .imrQ2),
   (0x648, .imrQ3),
   (0x6E0, .ethtype_0),
   (0x6E4, .ethtype_1),
   (0x6E8, .ethtype_2),
   (0x6EC, .ethtype_3)]

/-- Compare registers. -/
def rowsCmp : List Row :=
  [(0x700, .cmpW0_0),
   (0x704, .cmpW1_0),
   (0x708, .cmpW0_1),
   (0x70C, .cmpW1_1),
   (0x710, .cmpW0_2),
   (0x714, .cmpW1_2),
   (0x718, .cmpW0_3),
   (0x71C, .cmpW1_3),
   (0x720, .cmpW0_4),
   (0x724, .cmpW1_4),
   (0x728, .cmpW0_5),
   (0x72C, .cmpW1_5),
   (0x730, .cmpW0_6),
   (0x734, .cmpW1_6),
   (0x738, .cmpW0_7),
   (0x73C, .cmpW1_7),
   (0x740, .cmpW0_8),
   (0x744, .cmpW1_8),
   (0x748, .cmpW0_9),
   (0x74C, .cmpW1_9),
   (0x750, .cmpW0_10),
   (0x754, .cmpW1_10),
   (0x758, .cmpW0_11),
   (0x75C, .cmpW1_11)]

/-- MMSL registers. -/
def rowsMmsl : List Row :=
  [(0x800, .mmslControl),
   (0x804, .mmslStatus),
   (0x808, .mmslAssErr),
   (0x80C, .mmslAssOk),
   (0x810, .mmslFragRx),
   (0x814, .mmslFragTx),
   (0x818, .mmslIntStatus),
   (0x81C, .mmslIntEn),
   (0x820, .mmslIntDis),
   (0x824, .mmslIntMask)]

/-- The opcode table (30_encoding R155), one entry per offset. -/
def rows : List Row :=
  rowsControl
    ++ rowsFilter
    ++ rowsTxStat
    ++ rowsRxStat
    ++ rowsTsu
    ++ rowsQueue
    ++ rowsScreen
    ++ rowsCmp
    ++ rowsMmsl

/-- The first row at an offset. -/
def lookupRow (off : Nat) : List Row → Option (Dev → MmioOp → Instr)
  | [] => none
  | r :: rest => if r.1 = off then some r.2 else lookupRow off rest

/-- The access a 32-bit access at byte offset `off` of device `d`'s window is (R101, R142). -/
def decodeAt (d : Dev) (off : Nat) (op : MmioOp) : Except Reject Instr :=
  if off % 4 ≠ 0 then .error .notWordAccess
  else
    match lookupRow off rows with
    | some mk => .ok (mk d op)
    | none => .error (.unlisted d off op)

/-- The access key of a transaction (R141). -/
def keyOf (t : BitVec 64) : BitVec 16 := t.extractLsb' 0 16

/-- The access a transaction makes: bit 15 of its key tells a write from a read (R141). -/
def opOf (t : BitVec 64) : MmioOp :=
  if (keyOf t).getLsbD 15 then .write (t.extractLsb' 32 32) else .read

/-- The decoder: total on every transaction. -/
def decode (t : BitVec 64) : Except Reject Instr :=
  if t.extractLsb' 18 14 ≠ 0#14 then .error .notWordAccess
  else decodeAt (Dev.ofCode (t.extractLsb' 16 2)) ((keyOf t).extractLsb' 0 15).toNat (opOf t)

/-- The access key of an access (R141): `W` above the offset. -/
def keyFor (off : Nat) : MmioOp → BitVec 16
  | .read => 0#1 ++ BitVec.ofNat 15 off
  | .write _ => 1#1 ++ BitVec.ofNat 15 off

/-- The data bits of a transaction; a read drives none. -/
def dataFor : MmioOp → Word
  | .read => 0
  | .write v => v

/-- The encoder: the transaction of an instruction. -/
def encode (i : Instr) : BitVec 64 :=
  dataFor i.op ++ 0#14 ++ i.dev.code ++ keyFor i.off i.op

/-- The instruction the decoder reads from a row's bits, every bit above them 0. -/
def decodeTableWord (nbits w : Nat) : Option Instr :=
  match decode (BitVec.ofNat 64 (w % 2 ^ nbits)) with
  | .ok i => some i
  | .error _ => none

end Sys2Proof
end

