-- ==== Sys2Proof/Machine/State.lean ====
section
/-! DEFINITION. The machine's state: everything the spec gives the block (INVENTORY.md, "State"), as plain data, and its
value after reset (70_reset R700-R702). -/

namespace Sys2Proof.Machine

/-- The configuration a frame in flight is sent under: the words as they stood at its `TX_FETCH` (40_registers R192,
70_reset R705, R716; log 17). -/
structure TxConf where
  ncr          : Word
  ncfgr        : Word
  dmacfg       : Word
  stackedVlan  : Word
  txPtpUnicast : Word
  txBdControl  : Word
deriving DecidableEq, Repr, Inhabited

/-- The in-flight record of 41_tx_ring R314: the descriptors as `(address, w1 as read)` in ring order, the snapshot of
the frame's bytes, the first descriptor's NOCRC bit and the two abort marks. -/
structure TxFrame where
  descs  : List (Word × Word)
  data   : List Byte
  nocrc  : Bool
  und    : Bool
  buserr : Bool
  conf   : TxConf
deriving DecidableEq, Repr, Inhabited

/-- One queue of a device: its interrupt status and mask (10_state R40, R41) and its ring state (R38, R65, R67). Queue
0's `isr` and `imr` are the registers ISR and IMR; its QDIS bits are hard-wired 0 (R38). -/
structure Queue where
  isr      : Word
  imr      : Word
  txBase   : Word
  txCur    : Word
  txQdis   : Bool
  txActive : Bool
  inflight : Option TxFrame
  rxBase   : Word
  rxCur    : Word
  rxQdis   : Bool
deriving DecidableEq, Repr, Inhabited

/-- The time stamp unit of a device (44_tsu R460, 10_state R50-R53, R68). `inc` and `subInc` are the whole registers
TSU_INC and TSU_SUB_INC. -/
structure Tsu where
  sec    : BitVec 64
  ns     : BitVec 30
  acc    : BitVec 24
  inc    : Word
  subInc : Word
deriving DecidableEq, Repr, Inhabited

/-- The PTP event timestamp registers (10_state R54). -/
structure PtpRegs where
  txSec      : Word
  txNsec     : Word
  rxSec      : Word
  rxNsec     : Word
  peerTxSec  : Word
  peerTxNsec : Word
  peerRxSec  : Word
  peerRxNsec : Word
deriving DecidableEq, Repr, Inhabited

/-- The place of a 32-bit counter in `Device.stats`. -/
def statIndex : Stat → Fin 42
  | .framesTx => 0
  | .bcastTx => 1
  | .mcastTx => 2
  | .pauseTx => 3
  | .frames64Tx => 4
  | .frames65to127Tx => 5
  | .frames128to255Tx => 6
  | .frames256to511Tx => 7
  | .frames512to1023Tx => 8
  | .frames1024to1518Tx => 9
  | .frames1519Tx => 10
  | .txUnderruns => 11
  | .singleCollisions => 12
  | .multipleCollisions => 13
  | .excessiveCollisions => 14
  | .lateCollisions => 15
  | .deferredTx => 16
  | .crsErrors => 17
  | .framesRx => 18
  | .bcastRx => 19
  | .mcastRx => 20
  | .pauseRx => 21
  | .frames64Rx => 22
  | .frames65to127Rx => 23
  | .frames128to255Rx => 24
  | .frames256to511Rx => 25
  | .frames512to1023Rx => 26
  | .frames1024to1518Rx => 27
  | .frames1519Rx => 28
  | .undersizeRx => 29
  | .oversizeRx => 30
  | .jabbersRx => 31
  | .fcsErrorsRx => 32
  | .lengthErrorsRx => 33
  | .symbolErrorsRx => 34
  | .alignmentErrorsRx => 35
  | .resourceErrorsRx => 36
  | .overrunsRx => 37
  | .ipChecksumErrorsRx => 38
  | .tcpChecksumErrorsRx => 39
  | .udpChecksumErrorsRx => 40
  | .autoFlushedRx => 41

/-- One device instance (10_state R31, R33): its registers, its queues and its hidden state. The screener and compare
registers are held at the largest count a configuration may give them (00_scope R7). -/
structure Device where
  ncr          : Word
  ncfgr        : Word
  dmacfg       : Word
  tsr          : Word
  rsr          : Word
  jml          : Word
  hrb          : Word
  hrt          : Word
  sab          : Vector Word 4
  sat          : Vector Word 4
  tidm         : Vector Word 4
  stackedVlan  : Word
  rxPtpUnicast : Word
  txPtpUnicast : Word
  stats        : Vector Word 42
  octTx        : BitVec 48
  octRx        : BitVec 48
  octTxShadow  : BitVec 16
  octRxShadow  : BitVec 16
  tsu          : Tsu
  ptp          : PtpRegs
  txBdControl  : Word
  rxBdControl  : Word
  rxBufSize    : Vector Word 3
  t1           : Vector Word 16
  t2           : Vector Word 16
  ethtype      : Vector Word 8
  cmpW0        : Vector Word 32
  cmpW1        : Vector Word 32
  queues       : Vector Queue 4
  haltReq      : Bool
deriving DecidableEq, Repr, Inhabited

/-- The verify states of 45_mmsl R520. -/
inductive VState where
  | idle | verifying | succeeded | failed
deriving DecidableEq, Repr, Inhabited

/-- The MAC merge sublayer of a physical MAC (45_mmsl R520, 10_state R61-R64, R70), held by its pMAC. -/
structure Mmsl where
  control     : Word
  vstat       : VState
  vcount      : Nat
  waiting     : Bool
  respondOwed : Nat
  assErr      : Word
  assOk       : Word
  fragRx      : Word
  fragTx      : Word
  intStatus   : Word
  intMask     : Word
deriving DecidableEq, Repr, Inhabited

/-- System memory (20_memory R100): the bytes that differ from what an unlisted address reads as, by rising address. -/
abbrev Memory := List Host.Cell

/-- The whole machine: the devices, the MMSLs, system memory, the configuration, and the model's own fields: the events
given to the line, the value the last host read returned, the inputs that are pending and the count of free draws
(logs 2, 4, 7, 9, 10). -/
structure State where
  cfg     : Params
  pmac0   : Device
  emac0   : Device
  pmac1   : Device
  emac1   : Device
  mmsl0   : Mmsl
  mmsl1   : Mmsl
  mem     : Memory
  lineOut : List LineOut
  rdata   : Word
  inputs  : List Input
  draws   : Nat
deriving DecidableEq, Repr, Inhabited

/-- The model faults (60_exceptions R666, in its order; the last is the model's). Each marks a point past which the spec
gives no meaning: the model stops, which is safe. -/
inductive Fault where
  /-- Code 1 (R182): a write of 1 to reserved bits of an RW register; its offset and the bits (log 20). Safe. -/
  | reservedBitWritten (off : Nat) (bits : Word)
  /-- Code 2 (R143): a write to an offset with no register for the device. Safe. -/
  | unmappedWrite (off : Nat)
  /-- Code 3 (R207): a write of STACKED_VLAN with DEPTH 3. Safe. -/
  | illegalVlanDepth
  /-- Code 4 (R222): a write of MMSL_CONTROL with VTIME 0 or above 128. Safe. -/
  | illegalVerifyTime
  /-- Code 5 (R202): a write of JML below 64 or above JUMBO_LIMIT. Safe. -/
  | illegalJumboLength
  /-- Code 6 (R213): a write of TSU_NSEC at or above NS_ROLLOVER. Safe. -/
  | illegalNanoseconds
  /-- Code 7 (R195, R196, R711): a queue pointer write while its direction is enabled. Safe. -/
  | queuePointerWriteWhileEnabled
  /-- Code 8 (R193, R712): a DMACFG write that changes a descriptor mode while its direction is enabled. Safe. -/
  | modeChangeWhileEnabled
  /-- Code 9 (R108): a DMA address computation that reaches 2^32; raised by the TX and RX engines. Safe. -/
  | addressOverflow
  /-- Code 10 (R706): a host store to a hardware-owned slot of an enabled ring, or to its buffer. Safe. -/
  | hostTouchedHardwareOwned
  /-- Code 11 (R313): a TX frame of length 0. Safe. -/
  | txZeroLength
  /-- Code 12 (R313): a TX frame longer than the maximum. Safe. -/
  | txFrameTooLong
  /-- Code 13 (R310): a TX frame whose descriptor walk comes round without LAST (log 14). Safe. -/
  | txNoLastBuffer
  /-- Code 14 (R361): a frame to be stored to a queue whose buffer size is 0. Safe. -/
  | rxBufferSizeZero
  /-- The model's: a host store or load that passes the end of the 32-bit memory space (R100; log 15). Safe. -/
  | hostAccessBeyondMemory
deriving DecidableEq, Repr, Inhabited

/-- The refusals (60_exceptions R667, in its order, between two of the model's). Each marks what the spec does not
describe: the model stops, which is safe. -/
inductive Refusal where
  /-- An instruction without a meaning; raised by an arm of `exec` only. Safe. -/
  | notModelled (mnemonic : String)
  /-- Code 101 (R101): a register access that is not 32 bits wide or not 4-byte aligned. Safe. -/
  | narrowOrMisalignedAccess
  /-- Code 102 (R182): a write of 1 to a hard-wired bit of DMACFG. Safe. -/
  | hardwiredBitWritten
  /-- Code 103 (R195, R196): a write of QDIS = 1 to a queue 0 pointer. Safe. -/
  | queue0Disable
  /-- Code 104 (R192): a write of NCFGR with RXCOEN = 1. Safe. -/
  | rxChecksumOffload
  /-- Code 105 (R8): a configuration outside the parameter constraints; raised by `step`. Safe. -/
  | parameterConstraint
  /-- The model's: a bus access that no device's window covers (R100; log 6). Safe. -/
  | noDeviceAtAddress
deriving DecidableEq, Repr, Inhabited

/-- What a step or a meaning answers. -/
abbrev Result := Host.Outcome State Fault Refusal

/-! ### Access to the parts of the state -/

/-- The device instance `d`. -/
def State.dev (s : State) : Dev → Device
  | .pmac0 => s.pmac0
  | .emac0 => s.emac0
  | .pmac1 => s.pmac1
  | .emac1 => s.emac1

/-- The state with device `d` replaced. -/
def State.setDev (s : State) : Dev → Device → State
  | .pmac0, x => { s with pmac0 := x }
  | .emac0, x => { s with emac0 := x }
  | .pmac1, x => { s with pmac1 := x }
  | .emac1, x => { s with emac1 := x }

/-- The state with device `d` changed by `f`. -/
def State.modDev (s : State) (d : Dev) (f : Device → Device) : State := s.setDev d (f (s.dev d))

/-- The MMSL of physical MAC `m`. -/
def State.mmsl (s : State) : Mac → Mmsl
  | .mac0 => s.mmsl0
  | .mac1 => s.mmsl1

/-- The state with the MMSL of physical MAC `m` replaced. -/
def State.setMmsl (s : State) : Mac → Mmsl → State
  | .mac0, x => { s with mmsl0 := x }
  | .mac1, x => { s with mmsl1 := x }

/-- The physical MAC a device belongs to (10_state R31). -/
def macOf : Dev → Mac
  | .pmac0 => .mac0
  | .emac0 => .mac0
  | .pmac1 => .mac1
  | .emac1 => .mac1

/-- The pMAC of a physical MAC. -/
def pmacOf : Mac → Dev
  | .mac0 => .pmac0
  | .mac1 => .pmac1

/-- The eMAC of a physical MAC. -/
def emacOf : Mac → Dev
  | .mac0 => .emac0
  | .mac1 => .emac1

/-- Queue `q` of a device. -/
def Device.queue (x : Device) (q : Fin 4) : Queue := x.queues[q]

/-- The device with queue `q` replaced. -/
def Device.setQueue (x : Device) (q : Fin 4) (y : Queue) : Device :=
  { x with queues := x.queues.set q y }

/-- The device with queue `q` changed by `f`. -/
def Device.modQueue (x : Device) (q : Fin 4) (f : Queue → Queue) : Device := x.setQueue q (f (x.queue q))

/-- The device with every queue changed by `f`. -/
def Device.mapQueues (x : Device) (f : Queue → Queue) : Device :=
  { x with queues := #v[f (x.queue 0), f (x.queue 1), f (x.queue 2), f (x.queue 3)] }

/-! ### Reset (70_reset R700-R702; 10_state R33) -/

/-- A queue after reset: every implemented interrupt masked, pointers 0, nothing active; queues 1 to 3 disabled. -/
def Queue.reset (q : Fin 4) : Queue where
  isr := 0
  imr := if q = 0 then 0x07FC0CFE#32 else 0x000008FE#32
  txBase := 0
  txCur := 0
  txQdis := decide (q ≠ 0)
  txActive := false
  inflight := none
  rxBase := 0
  rxCur := 0
  rxQdis := decide (q ≠ 0)

/-- A device after reset. -/
def Device.reset : Device where
  ncr := 0
  ncfgr := 0x00080000#32
  dmacfg := 0x00180004#32
  tsr := 0
  rsr := 0
  jml := 0x00002800#32
  hrb := 0
  hrt := 0
  sab := .replicate 4 0
  sat := .replicate 4 0
  tidm := .replicate 4 0
  stackedVlan := 0x000188A8#32
  rxPtpUnicast := 0
  txPtpUnicast := 0
  stats := .replicate 42 0
  octTx := 0
  octRx := 0
  octTxShadow := 0
  octRxShadow := 0
  tsu := { sec := 0, ns := 0, acc := 0, inc := 0, subInc := 0 }
  ptp := { txSec := 0, txNsec := 0, rxSec := 0, rxNsec := 0,
           peerTxSec := 0, peerTxNsec := 0, peerRxSec := 0, peerRxNsec := 0 }
  txBdControl := 0
  rxBdControl := 0
  rxBufSize := .replicate 3 0x00000018#32
  t1 := .replicate 16 0
  t2 := .replicate 16 0
  ethtype := .replicate 8 0
  cmpW0 := .replicate 32 0
  cmpW1 := .replicate 32 0
  queues := #v[Queue.reset 0, Queue.reset 1, Queue.reset 2, Queue.reset 3]
  haltReq := false

/-- An MMSL after reset: VTIME 10, both interrupts masked. -/
def Mmsl.reset : Mmsl where
  control := 0x00000A00#32
  vstat := .idle
  vcount := 0
  waiting := false
  respondOwed := 0
  assErr := 0
  assOk := 0
  fragRx := 0
  fragTx := 0
  intStatus := 0
  intMask := 0x00000003#32

/-- The machine after reset, with the default parameters (00_scope R7). Memory lists nothing, no input is pending and
nothing has been drawn, read or sent (the model's fields: logs 2, 4, 5, 9, 10). -/
def State.reset : State where
  cfg := Config.defaultParams
  pmac0 := Device.reset
  emac0 := Device.reset
  pmac1 := Device.reset
  emac1 := Device.reset
  mmsl0 := Mmsl.reset
  mmsl1 := Mmsl.reset
  mem := []
  lineOut := []
  rdata := 0
  inputs := []
  draws := 0

end Sys2Proof.Machine
end

