-- ==== Sys2Proof/Machine/Ops.lean ====
section
/-! DEFINITION. The named operations over memory and registers: bytes and little-endian words of system memory (20_memory
R104-R106), the block's DMA accesses and the memory oracle (R122), and the access kinds of the register tables
(10_state R32, 40_registers R181-R188). -/

namespace Sys2Proof.Machine

/-! ### System memory -/

/-- The byte at an address; an unlisted address reads as `Config.unwrittenByte`. -/
def Memory.read : Memory → Nat → Byte
  | [], _ => Config.unwrittenByte
  | c :: rest, a => if c.1 = a then c.2 else Memory.read rest a

/-- Memory with nothing listed at an address. -/
def Memory.erase (m : Memory) (a : Nat) : Memory := m.filter fun c => decide (c.1 ≠ a)

/-- Memory with a cell put before the first one of a greater address. -/
def Memory.insert (a : Nat) (v : Byte) : Memory → Memory
  | [] => [(a, v)]
  | c :: rest => if a < c.1 then (a, v) :: c :: rest else c :: Memory.insert a v rest

/-- Memory with one byte stored. -/
def Memory.write (m : Memory) (a : Nat) (v : Byte) : Memory :=
  if v = Config.unwrittenByte then Memory.erase m a else Memory.insert a v (Memory.erase m a)

/-- The canonical form: addresses strictly rise and no entry equals what an unlisted address reads as. -/
def Memory.wf : Memory → Bool
  | [] => true
  | c :: rest =>
    (match rest with
      | [] => true
      | e :: _ => decide (c.1 < e.1))
      && decide (c.2 ≠ Config.unwrittenByte) && Memory.wf rest

/-- `n` bytes from an address up (R10 `MemRead`). -/
def Memory.readBytes (m : Memory) (a : Nat) : Nat → List Byte
  | 0 => []
  | n + 1 => Memory.read m a :: Memory.readBytes m (a + 1) n

/-- Memory with a list of bytes stored from an address up (R105: frame byte `i` at the buffer address plus `i`). -/
def Memory.writeBytes (m : Memory) (a : Nat) : List Byte → Memory
  | [] => m
  | b :: rest => Memory.writeBytes (Memory.write m a b) (a + 1) rest

/-- The bytes of a 32-bit word in little-endian order (R104). -/
def wordBytes (v : Word) : List Byte :=
  [v.extractLsb' 0 8, v.extractLsb' 8 8, v.extractLsb' 16 8, v.extractLsb' 24 8]

/-- `MemRead32` (R104). -/
def Memory.read32 (m : Memory) (a : Word) : Word :=
  Memory.read m (a + 3).toNat ++ Memory.read m (a + 2).toNat
    ++ Memory.read m (a + 1).toNat ++ Memory.read m a.toNat

/-- `MemWrite32` (R104). -/
def Memory.write32 (m : Memory) (a : Word) (v : Word) : Memory :=
  Memory.write (Memory.write (Memory.write (Memory.write m a.toNat (v.extractLsb' 0 8))
    (a + 1).toNat (v.extractLsb' 8 8)) (a + 2).toNat (v.extractLsb' 16 8)) (a + 3).toNat (v.extractLsb' 24 8)

/-! ### DMA accesses and the memory oracle -/

/-- The memory oracle of one step (R122): the numbers of the accesses it answers with BusErr, counted from 0 in the
step's order, a descriptor word and a data byte being one access each (R106; log 12), and the ranges the platform does
not back (R109). -/
structure Oracle where
  errs  : List Nat
  holes : List (Nat × Nat)
deriving DecidableEq, Repr

/-- `[a, a + n)` and `[b, b + k)` share a byte. -/
def overlaps (a n b k : Nat) : Bool :=
  decide (0 < n) && decide (0 < k) && decide (a < b + k) && decide (b < a + n)

/-- The oracle answers access number `n`, to `len` bytes from `a`, with BusErr: where one of the bytes lies in a range the
platform does not back (R109, R122). A range of length 0 holds no address. -/
def Oracle.busErr (o : Oracle) (n a len : Nat) : Bool :=
  o.errs.contains n || o.holes.any fun h => overlaps a len h.1 h.2

/-- A descriptor word read as the DMA master; none for BusErr. -/
def dmaRead32 (o : Oracle) (m : Memory) (n : Nat) (a : Word) : Option Word :=
  if o.busErr n a.toNat 4 then none else some (Memory.read32 m a)

/-- The oracle answers one of `len` byte accesses from number `n` and address `a` on with BusErr. -/
def Oracle.anyBusErr (o : Oracle) (n a : Nat) : Nat → Bool
  | 0 => false
  | len + 1 => o.busErr n a 1 || Oracle.anyBusErr o (n + 1) (a + 1) len

/-- A buffer read as the DMA master; none for BusErr. -/
def dmaReadBytes (o : Oracle) (m : Memory) (n a len : Nat) : Option (List Byte) :=
  if o.anyBusErr n a len then none else some (Memory.readBytes m a len)

/-- A buffer write as the DMA master: memory after it, and whether every byte was written. A BusErr ends it: the bytes
before stay written (42_rx_ring R372). -/
def dmaWriteBytes (o : Oracle) (m : Memory) (n a : Nat) : List Byte → Memory × Bool
  | [] => (m, true)
  | b :: rest =>
    if o.busErr n a 1 then (m, false) else dmaWriteBytes o (Memory.write m a b) (n + 1) (a + 1) rest

/-- A list of descriptor word writes in order: memory after them, and how many were done before a BusErr. -/
def dmaWriteWords (o : Oracle) (m : Memory) (n : Nat) : List (Word × Word) → Memory × Nat
  | [] => (m, 0)
  | w :: rest =>
    if o.busErr n w.1.toNat 4 then (m, 0)
    else
      let r := dmaWriteWords o (Memory.write32 m w.1 w.2) (n + 1) rest
      (r.1, r.2 + 1)

/-- A list of descriptor word writes that meets no BusErr. -/
def Memory.writeWords (m : Memory) : List (Word × Word) → Memory
  | [] => m
  | w :: rest => Memory.writeWords (Memory.write32 m w.1 w.2) rest

/-- Advance of a descriptor pointer (41_tx_ring R302, 42_rx_ring R352): to the ring's base after a descriptor with WRAP,
else one stride on; none when that reaches 2^32 (20_memory R108). -/
def nextDesc (base : Word) (wrap : Bool) (stride : Nat) (a : Word) : Option Word :=
  if wrap then some base
  else if a.toNat + stride < 2 ^ 32 then some (a + BitVec.ofNat 32 stride)
  else none

/-! ### Register accesses -/

/-- A read that returns `v` (R181); the value a host read returns is kept in `rdata` (log 9). -/
def readAs (v : Word) (s : State) : Result := .next { s with rdata := v }

/-- An access to an unmapped offset (30_encoding R143): a read returns a free value (log 4), a write is a fault. -/
def unmapped (off : Nat) : MmioOp → State → Result
  | .read, s => .next { s with rdata := Config.unmappedRead s.draws, draws := s.draws + 1 }
  | .write _, _ => .fault (.unmappedWrite off)

/-- An access to a register that exists only under a condition (10_state R31). -/
def whenPresent (present : Bool) (off : Nat) (op : MmioOp) (s : State) (access : Result) : Result :=
  if present then access else unmapped off op s

/-- An `RW` register (R181, R182 steps 1, 4 and 5): `rsvd` its reserved bits, `value` what it reads, `store` the rest
of a write. -/
def rwReg (off : Nat) (rsvd value : Word) (store : Word → Result) : MmioOp → State → Result
  | .read, s => readAs value s
  | .write v, _ => if v &&& rsvd ≠ 0 then .fault (.reservedBitWritten off (v &&& rsvd)) else store v

/-- An `RO` register (R181, R183). -/
def roReg (value : Word) : MmioOp → State → Result
  | .read, s => readAs value s
  | .write _, s => .next s

/-- A `COR` register (R188, R183): `cleared` is the state with it cleared. -/
def corReg (value : Word) (cleared : State) : MmioOp → State → Result
  | .read, _ => readAs value cleared
  | .write _, s => .next s

/-- A `W1C` register (R32): `clear v` is the state with the bits of `v` cleared. -/
def w1cReg (value : Word) (clear : Word → State) : MmioOp → State → Result
  | .read, s => readAs value s
  | .write v, _ => .next (clear v)

/-- A `W` register (R32): it reads 0 and a write acts. -/
def cmdReg (act : Word → State) : MmioOp → State → Result
  | .read, s => readAs 0 s
  | .write v, _ => .next (act v)

end Sys2Proof.Machine
end

