-- ==== Sys2Proof/Machine/Operands.lean ====
section
/-! DEFINITION. The operand forms: fields of registers (10_state R34-R64), fields of descriptor words (30_encoding
R146-R149) and bytes of frames (00_scope R12). -/

namespace Sys2Proof.Machine

/-- The field `w[lo + len - 1 : lo]` as a number (00_scope R9). -/
def field (w : Word) (lo len : Nat) : Nat := (w.extractLsb' lo len).toNat

/-- One bit at place `i`. -/
def bitAt (i : Nat) (b : Bool) : Word := if b then 1#32 <<< i else 0

/-! ### NCR (R34) -/

def ncrLbLocal (w : Word) : Bool := w.getLsbD 1
def ncrRe (w : Word) : Bool := w.getLsbD 2
def ncrTe (w : Word) : Bool := w.getLsbD 3
def ncrClrStat (w : Word) : Bool := w.getLsbD 5
def ncrTStart (w : Word) : Bool := w.getLsbD 9
def ncrTHalt (w : Word) : Bool := w.getLsbD 10
def ncrPtpUcEn (w : Word) : Bool := w.getLsbD 20
def ncrOssEn (w : Word) : Bool := w.getLsbD 24
def ncrOssCorr (w : Word) : Bool := w.getLsbD 27

/-! ### NCFGR (R35) -/

def ncfgrFd (w : Word) : Bool := w.getLsbD 1
def ncfgrDnvlan (w : Word) : Bool := w.getLsbD 2
def ncfgrJumbo (w : Word) : Bool := w.getLsbD 3
def ncfgrCaf (w : Word) : Bool := w.getLsbD 4
def ncfgrNbc (w : Word) : Bool := w.getLsbD 5
def ncfgrMhen (w : Word) : Bool := w.getLsbD 6
def ncfgrUhen (w : Word) : Bool := w.getLsbD 7
def ncfgrRx1536 (w : Word) : Bool := w.getLsbD 8
def ncfgrRbof (w : Word) : Nat := field w 14 2
def ncfgrLferd (w : Word) : Bool := w.getLsbD 16
def ncfgrRfcs (w : Word) : Bool := w.getLsbD 17
def ncfgrRxcoen (w : Word) : Bool := w.getLsbD 24
def ncfgrIrxfcs (w : Word) : Bool := w.getLsbD 26

/-! ### DMACFG (R36) -/

def dmacfgTxcoen (w : Word) : Bool := w.getLsbD 11
def dmacfgRxbs (w : Word) : Nat := field w 16 8
def dmacfgRxext (w : Word) : Bool := w.getLsbD 28
def dmacfgTxext (w : Word) : Bool := w.getLsbD 29

/-- The descriptor size and stride of a direction (30_encoding R146). -/
def stride (extended : Bool) : Nat := if extended then 16 else 8

/-! ### Other registers -/

/-- `JML` (R42). -/
def jmlLength (w : Word) : Nat := field w 0 14

/-- `OUTER_TPID` and `DEPTH` of STACKED_VLAN (R46). -/
def vlanTpid (w : Word) : Nat := field w 0 16
def vlanDepth (w : Word) : Nat := field w 16 2

/-- `TSMODE` of a `BD_CONTROL` register (R56). -/
def tsMode (w : Word) : Nat := field w 4 2

/-- `RXBS` of RXBUF_SIZE_Q (R55). -/
def rxBufUnits (w : Word) : Nat := field w 0 8

/-- `NSINC` of TSU_INC and `SUBNS` of TSU_SUB_INC (R50, R53). -/
def tsuNsInc (w : Word) : Nat := field w 0 8
def tsuSubNs (w : Word) : Nat := field w 0 24

/-- MMSL_CONTROL (R61). -/
def mmVdis (w : Word) : Bool := w.getLsbD 0
def mmRstVer (w : Word) : Bool := w.getLsbD 1
def mmPen (w : Word) : Bool := w.getLsbD 2
def mmRxEmac (w : Word) : Bool := w.getLsbD 3
def mmAddFrag (w : Word) : Nat := field w 4 2
def mmVtime (w : Word) : Nat := field w 8 8

/-- The receive buffer size of a queue in bytes (42_rx_ring R351, R216). -/
def rxBufBytes (x : Device) (q : Fin 4) : Nat :=
  64 * (if q = 0 then dmacfgRxbs x.dmacfg else rxBufUnits (x.rxBufSize[q.val - 1]?.getD 0))

/-! ### Descriptor words (30_encoding R147, R148) -/

def rxOwn (w0 : Word) : Bool := w0.getLsbD 0
def rxWrap (w0 : Word) : Bool := w0.getLsbD 1
/-- The buffer address: bits 31:3 with bits 2:0 taken as 0 (20_memory R107). -/
def rxAddr (w0 : Word) : Word := w0 &&& 0xFFFFFFF8#32

def txLen (w1 : Word) : Nat := field w1 0 14
def txLast (w1 : Word) : Bool := w1.getLsbD 15
def txNoCrc (w1 : Word) : Bool := w1.getLsbD 16
def txWrap (w1 : Word) : Bool := w1.getLsbD 30
def txUsed (w1 : Word) : Bool := w1.getLsbD 31

/-- `TS_LO` and `TS_HI` of a timestamp (R149). -/
def tsLo (sec : BitVec 64) (ns : BitVec 30) : Word := sec.extractLsb' 0 2 ++ ns
def tsHi (sec : BitVec 64) : Word := (sec.extractLsb' 2 4).setWidth 32

/-! ### Frame bytes (00_scope R12) -/

/-- Byte `i` of a frame, as a number. -/
def byteAt (f : List Byte) (i : Nat) : Nat := (f.getD i 0).toNat

/-- The big-endian 16-bit field at `i`. -/
def be16 (f : List Byte) (i : Nat) : Nat := byteAt f i * 2 ^ 8 + byteAt f (i + 1)

/-- The big-endian 32-bit field at `i`. -/
def be32 (f : List Byte) (i : Nat) : Nat := be16 f i * 2 ^ 16 + be16 f (i + 2)

/-- The big-endian field of `n` bytes at `i`. -/
def beField (f : List Byte) (i : Nat) : Nat → Nat
  | 0 => 0
  | n + 1 => byteAt f i * 2 ^ (8 * n) + beField f (i + 1) n

/-- The `n` bytes of a number in big-endian order. -/
def beBytes (v : Nat) : Nat → List Byte
  | 0 => []
  | n + 1 => BitVec.ofNat 8 (v / 2 ^ (8 * n)) :: beBytes v n

/-- The frame with the bytes from `i` on replaced by `b`. -/
def patch (f : List Byte) (i : Nat) (b : List Byte) : List Byte :=
  f.take i ++ b ++ f.drop (i + b.length)

/-- The broadcast address. -/
def broadcastAddr : List Byte := List.replicate 6 0xFF#8

/-- The destination is FF:FF:FF:FF:FF:FF (30_encoding R150). -/
def isBroadcast (f : List Byte) : Bool := decide (f.take 6 = broadcastAddr)

/-- The destination is a group address: bit 0 of the first byte (R150). -/
def isGroup (f : List Byte) : Bool := (f.getD 0 0).getLsbD 0

end Sys2Proof.Machine
end

