-- ==== Sys2Proof/Machine/Flags.lean ====
section
/-! DEFINITION. The flags: status bits of TSR, RSR, the interrupt status registers and MMSL_INT_STATUS (10_state R37-R40,
R64, R73), the event signalling that is this block's counterpart of taking an exception (60_exceptions R661), the lines
it drives (R662), and the statistics counters (46_statistics R560). -/

namespace Sys2Proof.Machine

/-! ### Places of the bits -/

/-- TSR (R37). -/
def tsrUbr : Word := 0x001#32
def tsrCol : Word := 0x002#32
def tsrRle : Word := 0x004#32
def tsrTxGo : Word := 0x008#32
def tsrTfc : Word := 0x010#32
def tsrTxComp : Word := 0x020#32
def tsrUnd : Word := 0x040#32
def tsrLco : Word := 0x080#32
def tsrHresp : Word := 0x100#32
/-- The W1C bits of TSR. -/
def tsrW1c : Word := 0x1F7#32

/-- RSR (R39). -/
def rsrBna : Word := 0x1#32
def rsrRec : Word := 0x2#32
def rsrRxOvr : Word := 0x4#32
def rsrHno : Word := 0x8#32
/-- The W1C bits of RSR. -/
def rsrW1c : Word := 0xF#32

/-- ISR and ISR_Q (R40). -/
def isrRcomp : Word := 0x00000002#32
def isrRxUbr : Word := 0x00000004#32
def isrTxUbr : Word := 0x00000008#32
def isrTund : Word := 0x00000010#32
def isrRlex : Word := 0x00000020#32
def isrTfc : Word := 0x00000040#32
def isrTcomp : Word := 0x00000080#32
def isrRovr : Word := 0x00000400#32
def isrHresp : Word := 0x00000800#32
def isrPtpDrqfr : Word := 0x00040000#32
def isrPtpSfr : Word := 0x00080000#32
def isrPtpDrqft : Word := 0x00100000#32
def isrPtpSft : Word := 0x00200000#32
def isrPtpPdrqfr : Word := 0x00400000#32
def isrPtpPdrsfr : Word := 0x00800000#32
def isrPtpPdrqft : Word := 0x01000000#32
def isrPtpPdrsft : Word := 0x02000000#32
def isrTsuSri : Word := 0x04000000#32

/-- The implemented bits of a queue's interrupt registers (R40, R199). -/
def isrImpl (q : Fin 4) : Word := if q = 0 then 0x07FC0CFE#32 else 0x000008FE#32

/-- MMSL_INT_STATUS (R64). -/
def mmVchg : Word := 0x1#32
def mmAerr : Word := 0x2#32
def mmIntImpl : Word := 0x3#32

/-! ### Events -/

/-- `irqQ(q, BIT)` (R661): an event sets its bit of the queue's interrupt status register, masked or not. -/
def Device.irq (x : Device) (q : Fin 4) (bits : Word) : Device :=
  x.modQueue q fun y => { y with isr := y.isr ||| bits }

/-- A device-wide event sets its bit of ISR, queue 0's register (R661). -/
def Device.irqDevice (x : Device) (bits : Word) : Device := x.irq 0 bits

/-- The transmit status with bits set (R37). -/
def Device.setTsr (x : Device) (bits : Word) : Device := { x with tsr := x.tsr ||| bits }

/-- The receive status with bits set (R39). -/
def Device.setRsr (x : Device) (bits : Word) : Device := { x with rsr := x.rsr ||| bits }

/-- TSR.TXGO (41_tx_ring R301): some queue is active or has a frame in flight. -/
def Device.txGo (x : Device) : Bool :=
  x.queues.toList.any fun y => y.txActive || y.inflight.isSome

/-- No queue of the device has a frame in flight. -/
def Device.idleInflight (x : Device) : Bool := x.queues.toList.all fun y => y.inflight.isNone

/-- The whole TSR as read (R194). -/
def Device.tsrValue (x : Device) : Word := (x.tsr &&& tsrW1c) ||| bitAt 3 x.txGo

/-! ### Interrupt lines (R662) -/

/-- `line(d, q)`. -/
def Device.line (x : Device) (q : Fin 4) : Bool :=
  (x.queue q).isr &&& ~~~(x.queue q).imr &&& isrImpl q != 0

/-- `mmsl_line(d)` of the pMAC that holds the MMSL. -/
def Mmsl.line (m : Mmsl) : Bool := m.intStatus &&& ~~~m.intMask &&& mmIntImpl != 0

/-! ### Counters -/

/-- `v + n`, or what `STAT_OVERFLOW` says where that does not fit (R560). -/
def bump {w : Nat} (v : BitVec w) (n : Nat) : BitVec w :=
  if v.toNat + n < 2 ^ w then v + BitVec.ofNat w n
  else
    match Config.statOverflow with
    | .wrap => v + BitVec.ofNat w n
    | .saturate => BitVec.allOnes w

/-- `count(d, C)` (R560). -/
def Device.count (x : Device) (c : Stat) : Device :=
  { x with stats := x.stats.set (statIndex c) (bump x.stats[statIndex c] 1) }

/-- `count` for each of a list of counters, in order. -/
def Device.countAll (x : Device) : List Stat → Device
  | [] => x
  | c :: rest => Device.countAll (x.count c) rest

/-- Every statistics counter, both octet counters and both shadows 0 (40_registers R191, CLRSTAT). -/
def Device.clearStats (x : Device) : Device :=
  { x with stats := .replicate 42 0, octTx := 0, octRx := 0, octTxShadow := 0, octRxShadow := 0 }

/-- The size counter of a transmitted frame (R567-R573). -/
def txSizeStat (n : Nat) : Stat :=
  if n ≤ 64 then .frames64Tx
  else if n ≤ 127 then .frames65to127Tx
  else if n ≤ 255 then .frames128to255Tx
  else if n ≤ 511 then .frames256to511Tx
  else if n ≤ 1023 then .frames512to1023Tx
  else if n ≤ 1518 then .frames1024to1518Tx
  else .frames1519Tx

/-- The size counter of a stored frame (R587-R593). -/
def rxSizeStat (n : Nat) : Stat :=
  if n ≤ 64 then .frames64Rx
  else if n ≤ 127 then .frames65to127Rx
  else if n ≤ 255 then .frames128to255Rx
  else if n ≤ 511 then .frames256to511Rx
  else if n ≤ 1023 then .frames512to1023Rx
  else if n ≤ 1518 then .frames1024to1518Rx
  else .frames1519Rx

/-- The destination counter of a frame: `b` for broadcast, `m` for another group address (R564, R565, R584, R585). -/
def destStats (b m : Stat) (f : List Byte) : List Stat :=
  if isBroadcast f then [b] else if isGroup f then [m] else []

end Sys2Proof.Machine
end

