-- ==== Sys2Proof/Machine/Control.lean ====
section
/-! DEFINITION. Control, configuration and status registers: NCR, NCFGR, DMACFG, JML, TSR, RSR (40_registers R190-R194,
R197, R202). -/

namespace Sys2Proof.Machine

/-! ### NCR (R190, R191; bits of 10_state R34) -/

/-- The stored bits of NCR: LB_LOCAL, RE, TE, MPE, PTP_UC_EN, OSS_EN, OSS_CORR. -/
def ncrStored : Word := 0x0910001E#32

/-- The reserved bits of NCR. -/
def ncrRsvd : Word := 0xF6EFF9C1#32

/-- Transmit disable (R191): every queue stops, drops its frame in flight and returns to its base. -/
def Device.txDisable (x : Device) : Device :=
  { x.mapQueues (fun y => { y with txActive := false, inflight := none, txCur := y.txBase }) with haltReq := false }

/-- Receive disable (R191): every queue returns to its base. -/
def Device.rxDisable (x : Device) : Device := x.mapQueues fun y => { y with rxCur := y.rxBase }

/-- Start of transmission (R191): every queue that is not disabled becomes active. -/
def Device.txStart (x : Device) : Device :=
  { x.mapQueues (fun y => { y with txActive := y.txActive || !y.txQdis }) with haltReq := false }

/-- Halt of transmission (R191): after the frame in flight, or at once. -/
def Device.txHalt (x : Device) : Device :=
  if x.idleInflight then x.mapQueues fun y => { y with txActive := false } else { x with haltReq := true }

/-- What an NCR write without reserved bits does to its device (R191), in the rule's order. -/
def Device.writeNcr (x : Device) (v : Word) : Device :=
  let x1 := if ncrTe x.ncr && !ncrTe v then x.txDisable else x
  let x2 := if ncrRe x.ncr && !ncrRe v then x1.rxDisable else x1
  let x3 := if ncrClrStat v then x2.clearStats else x2
  let x4 := if ncrTStart v && ncrTe v then x3.txStart else x3
  let x5 := if ncrTHalt v then x4.txHalt else x4
  { x5 with ncr := v &&& ncrStored }

/-- `NCR.read` (R190). -/
def execNcrRead (d : Dev) (s : State) : Result := readAs (s.dev d).ncr s

/-- `NCR.write` (R191). -/
def execNcrWrite (d : Dev) (v : Word) (s : State) : Result :=
  rwReg 0x000 ncrRsvd (s.dev d).ncr (fun w => .next (s.modDev d fun x => x.writeNcr w)) (.write v) s

/-! ### NCFGR (R192; bits of R35) -/

/-- The reserved bits of NCFGR. -/
def ncfgrRsvd : Word := 0xFA803A00#32

/-- `NCFGR` (R192); receive checksum offload is refused (log 19). -/
def execNcfgr (d : Dev) (op : MmioOp) (s : State) : Result :=
  rwReg 0x004 ncfgrRsvd (s.dev d).ncfgr
    (fun v =>
      if ncfgrRxcoen v then .refused .rxChecksumOffload
      else .next (s.modDev d fun x => { x with ncfgr := v }))
    op s

/-! ### DMACFG (R193; bits of R36) -/

/-- The reserved bits of DMACFG. -/
def dmacfgRsvd : Word := 0x8F00F720#32

/-- The hard-wired bits of DMACFG: ENDIAN_DESC, ENDIAN_DATA, ADDR64. -/
def dmacfgHw0 : Word := 0x400000C0#32

/-- The write changes a descriptor mode whose direction is enabled (70_reset R712). -/
def modeChangeWhileEnabled (x : Device) (v : Word) : Bool :=
  (ncrRe x.ncr && dmacfgRxext v != dmacfgRxext x.dmacfg) || (ncrTe x.ncr && dmacfgTxext v != dmacfgTxext x.dmacfg)

/-- `DMACFG` (R193). -/
def execDmacfg (d : Dev) (op : MmioOp) (s : State) : Result :=
  rwReg 0x010 dmacfgRsvd (s.dev d).dmacfg
    (fun v =>
      if v &&& dmacfgHw0 ≠ 0 then .refused .hardwiredBitWritten
      else if modeChangeWhileEnabled (s.dev d) v then .fault .modeChangeWhileEnabled
      else .next (s.modDev d fun x => { x with dmacfg := v }))
    op s

/-! ### JML (R202; bits of R42) -/

/-- The reserved bits of JML. -/
def jmlRsvd : Word := 0xFFFFC000#32

/-- The lengths software may write to JML (R202): `JUMBO_LIMIT` is at least 10,240 (00_scope R8). -/
def jmlLegal (v : Word) : Bool :=
  decide (64 ≤ jmlLength v) && (decide (jmlLength v ≤ 10240) || decide (jmlLength v ≤ Config.jumboLimit))

/-- `JML` (R202). -/
def execJml (d : Dev) (op : MmioOp) (s : State) : Result :=
  rwReg 0x048 jmlRsvd (s.dev d).jml
    (fun v =>
      if jmlLegal v then .next (s.modDev d fun x => { x with jml := v }) else .fault .illegalJumboLength)
    op s

/-! ### Status registers -/

/-- `TSR` (R194). -/
def execTsr (d : Dev) (op : MmioOp) (s : State) : Result :=
  w1cReg (s.dev d).tsrValue (fun v => s.modDev d fun x => { x with tsr := x.tsr &&& ~~~(v &&& tsrW1c) }) op s

/-- `RSR` (R197). -/
def execRsr (d : Dev) (op : MmioOp) (s : State) : Result :=
  w1cReg (s.dev d).rsr (fun v => s.modDev d fun x => { x with rsr := x.rsr &&& ~~~(v &&& rsrW1c) }) op s

end Sys2Proof.Machine
end

