-- ==== Sys2Proof/Machine/Filters.lean ====
section
/-! DEFINITION. Address filter, type-ID, VLAN, PTP unicast, timestamp capture and identification registers (40_registers
R203-R209, R217; bits of 10_state R43-R48, R56). -/

namespace Sys2Proof.Machine

/-- Specific-address bottom register of filter `k + 1` (R204). -/
def saBottomReg (k : Fin 4) (d : Dev) (op : MmioOp) (s : State) : Result :=
  rwReg (0x088 + 8 * k.val) 0 (s.dev d).sab[k]
    (fun v => .next (s.modDev d fun x => { x with sab := x.sab.set k v })) op s

/-- The reserved bits of a specific-address top register: filter 1 has no SRC and no BMASK (R44, R205). -/
def satRsvd (k : Fin 4) : Word := if k = 0 then 0xFFFF0000#32 else 0xC0FE0000#32

/-- Specific-address top register of filter `k + 1` (R205). -/
def saTopReg (k : Fin 4) (d : Dev) (op : MmioOp) (s : State) : Result :=
  rwReg (0x08C + 8 * k.val) (satRsvd k) (s.dev d).sat[k]
    (fun v => .next (s.modDev d fun x => { x with sat := x.sat.set k v })) op s

/-- Type-ID match register `k + 1` (R206). -/
def tidmReg (k : Fin 4) (d : Dev) (op : MmioOp) (s : State) : Result :=
  rwReg (0x0A8 + 4 * k.val) 0x7FFF0000#32 (s.dev d).tidm[k]
    (fun v => .next (s.modDev d fun x => { x with tidm := x.tidm.set k v })) op s

/-- `HRB` (R203). -/
def execHrb (d : Dev) (op : MmioOp) (s : State) : Result :=
  rwReg 0x080 0x00000000#32 (s.dev d).hrb (fun v => .next (s.modDev d fun x => { x with hrb := v })) op s

/-- `HRT` (R203). -/
def execHrt (d : Dev) (op : MmioOp) (s : State) : Result :=
  rwReg 0x084 0x00000000#32 (s.dev d).hrt (fun v => .next (s.modDev d fun x => { x with hrt := v })) op s

/-- `SA1B` (R204). -/
def execSa1b (d : Dev) (op : MmioOp) (s : State) : Result :=
  saBottomReg 0 d op s

/-- `SA1T` (R205). -/
def execSa1t (d : Dev) (op : MmioOp) (s : State) : Result :=
  saTopReg 0 d op s

/-- `SA2B` (R204). -/
def execSa2b (d : Dev) (op : MmioOp) (s : State) : Result :=
  saBottomReg 1 d op s

/-- `SA2T` (R205). -/
def execSa2t (d : Dev) (op : MmioOp) (s : State) : Result :=
  saTopReg 1 d op s

/-- `SA3B` (R204). -/
def execSa3b (d : Dev) (op : MmioOp) (s : State) : Result :=
  saBottomReg 2 d op s

/-- `SA3T` (R205). -/
def execSa3t (d : Dev) (op : MmioOp) (s : State) : Result :=
  saTopReg 2 d op s

/-- `SA4B` (R204). -/
def execSa4b (d : Dev) (op : MmioOp) (s : State) : Result :=
  saBottomReg 3 d op s

/-- `SA4T` (R205). -/
def execSa4t (d : Dev) (op : MmioOp) (s : State) : Result :=
  saTopReg 3 d op s

/-- `TIDM1` (R206). -/
def execTidm1 (d : Dev) (op : MmioOp) (s : State) : Result :=
  tidmReg 0 d op s

/-- `TIDM2` (R206). -/
def execTidm2 (d : Dev) (op : MmioOp) (s : State) : Result :=
  tidmReg 1 d op s

/-- `TIDM3` (R206). -/
def execTidm3 (d : Dev) (op : MmioOp) (s : State) : Result :=
  tidmReg 2 d op s

/-- `TIDM4` (R206). -/
def execTidm4 (d : Dev) (op : MmioOp) (s : State) : Result :=
  tidmReg 3 d op s

/-- `STACKED_VLAN` (R207). -/
def execStackedVlan (d : Dev) (op : MmioOp) (s : State) : Result :=
  rwReg 0x0C0 0xFFFC0000#32 (s.dev d).stackedVlan
    (fun v =>
      if vlanDepth v = 3 then .fault .illegalVlanDepth
      else .next (s.modDev d fun x => { x with stackedVlan := v }))
    op s

/-- `RX_PTP_UNICAST` (R208). -/
def execRxPtpUnicast (d : Dev) (op : MmioOp) (s : State) : Result :=
  rwReg 0x0E0 0x00000000#32 (s.dev d).rxPtpUnicast (fun v => .next (s.modDev d fun x => { x with rxPtpUnicast := v })) op s

/-- `TX_PTP_UNICAST` (R208). -/
def execTxPtpUnicast (d : Dev) (op : MmioOp) (s : State) : Result :=
  rwReg 0x0E4 0x00000000#32 (s.dev d).txPtpUnicast (fun v => .next (s.modDev d fun x => { x with txPtpUnicast := v })) op s

/-- `TX_BD_CONTROL` (R217). -/
def execTxBdControl (d : Dev) (op : MmioOp) (s : State) : Result :=
  rwReg 0x4CC 0xFFFFFFCF#32 (s.dev d).txBdControl (fun v => .next (s.modDev d fun x => { x with txBdControl := v })) op s

/-- `RX_BD_CONTROL` (R217). -/
def execRxBdControl (d : Dev) (op : MmioOp) (s : State) : Result :=
  rwReg 0x4D0 0xFFFFFFCF#32 (s.dev d).rxBdControl (fun v => .next (s.modDev d fun x => { x with rxBdControl := v })) op s

/-- `MODULE_ID` (R209). -/
def execModuleId (_d : Dev) (op : MmioOp) (s : State) : Result :=
  roReg Config.moduleId op s

end Sys2Proof.Machine
end

