-- ==== Sys2Proof/Machine/Interrupts.lean ====
section
/-! DEFINITION. The interrupt registers of each queue: status, enable, disable, mask (40_registers R198-R201). Reading the
status or masking it is this block's counterpart of returning from an exception (60_exceptions R668). -/

namespace Sys2Proof.Machine

/-- ISR (queue 0) or ISR_Q at offset `off` (R198): clear on read. -/
def isrReg (q : Fin 4) (off : Nat) (d : Dev) (op : MmioOp) (s : State) : Result :=
  whenPresent (decide (q.val < s.cfg.nQueues d)) off op s <|
    corReg ((s.dev d).queue q).isr (s.modDev d fun x => x.modQueue q fun y => { y with isr := 0 }) op s

/-- IER or IER_Q at offset `off` (R199): a 1 unmasks. -/
def ierReg (q : Fin 4) (off : Nat) (d : Dev) (op : MmioOp) (s : State) : Result :=
  whenPresent (decide (q.val < s.cfg.nQueues d)) off op s <|
    cmdReg (fun v => s.modDev d fun x => x.modQueue q fun y => { y with imr := y.imr &&& ~~~(v &&& isrImpl q) }) op s

/-- IDR or IDR_Q at offset `off` (R200): a 1 masks. -/
def idrReg (q : Fin 4) (off : Nat) (d : Dev) (op : MmioOp) (s : State) : Result :=
  whenPresent (decide (q.val < s.cfg.nQueues d)) off op s <|
    cmdReg (fun v => s.modDev d fun x => x.modQueue q fun y => { y with imr := y.imr ||| (v &&& isrImpl q) }) op s

/-- IMR or IMR_Q at offset `off` (R201). -/
def imrReg (q : Fin 4) (off : Nat) (d : Dev) (op : MmioOp) (s : State) : Result :=
  whenPresent (decide (q.val < s.cfg.nQueues d)) off op s <| roReg ((s.dev d).queue q).imr op s

/-- `ISR` (R198). -/
def execIsr (d : Dev) (op : MmioOp) (s : State) : Result :=
  isrReg 0 0x024 d op s

/-- `IER` (R199). -/
def execIer (d : Dev) (op : MmioOp) (s : State) : Result :=
  ierReg 0 0x028 d op s

/-- `IDR` (R200). -/
def execIdr (d : Dev) (op : MmioOp) (s : State) : Result :=
  idrReg 0 0x02C d op s

/-- `IMR` (R201). -/
def execImr (d : Dev) (op : MmioOp) (s : State) : Result :=
  imrReg 0 0x030 d op s

/-- `ISR_Q[1]` (R198). -/
def execIsrQ1 (d : Dev) (op : MmioOp) (s : State) : Result :=
  isrReg 1 0x400 d op s

/-- `ISR_Q[2]` (R198). -/
def execIsrQ2 (d : Dev) (op : MmioOp) (s : State) : Result :=
  isrReg 2 0x404 d op s

/-- `ISR_Q[3]` (R198). -/
def execIsrQ3 (d : Dev) (op : MmioOp) (s : State) : Result :=
  isrReg 3 0x408 d op s

/-- `IER_Q[1]` (R199). -/
def execIerQ1 (d : Dev) (op : MmioOp) (s : State) : Result :=
  ierReg 1 0x600 d op s

/-- `IER_Q[2]` (R199). -/
def execIerQ2 (d : Dev) (op : MmioOp) (s : State) : Result :=
  ierReg 2 0x604 d op s

/-- `IER_Q[3]` (R199). -/
def execIerQ3 (d : Dev) (op : MmioOp) (s : State) : Result :=
  ierReg 3 0x608 d op s

/-- `IDR_Q[1]` (R200). -/
def execIdrQ1 (d : Dev) (op : MmioOp) (s : State) : Result :=
  idrReg 1 0x620 d op s

/-- `IDR_Q[2]` (R200). -/
def execIdrQ2 (d : Dev) (op : MmioOp) (s : State) : Result :=
  idrReg 2 0x624 d op s

/-- `IDR_Q[3]` (R200). -/
def execIdrQ3 (d : Dev) (op : MmioOp) (s : State) : Result :=
  idrReg 3 0x628 d op s

/-- `IMR_Q[1]` (R201). -/
def execImrQ1 (d : Dev) (op : MmioOp) (s : State) : Result :=
  imrReg 1 0x640 d op s

/-- `IMR_Q[2]` (R201). -/
def execImrQ2 (d : Dev) (op : MmioOp) (s : State) : Result :=
  imrReg 2 0x644 d op s

/-- `IMR_Q[3]` (R201). -/
def execImrQ3 (d : Dev) (op : MmioOp) (s : State) : Result :=
  imrReg 3 0x648 d op s

end Sys2Proof.Machine
end

