-- ==== Sys2Proof/Machine/MergeSublayer.lean ====
section
/-! DEFINITION. The MAC merge sublayer: its registers (40_registers R222-R226), the verify state machine (45_mmsl R521,
R527-R534) and its counters (R542-R545). -/

namespace Sys2Proof.Machine

/-- The number of a verify state (R520). -/
def VState.code : VState → BitVec 2
  | .idle => 0
  | .verifying => 1
  | .succeeded => 2
  | .failed => 3

/-- Preemption active (R536). -/
def Mmsl.pactive (m : Mmsl) : Bool := mmPen m.control && (mmVdis m.control || decide (m.vstat = .succeeded))

/-- A change of the verify state; a different value sets VCHG (R534). -/
def Mmsl.setVstat (m : Mmsl) (v : VState) : Mmsl :=
  { m with vstat := v, intStatus := if m.vstat = v then m.intStatus else m.intStatus ||| mmVchg }

/-- The verify state set to `v` with the attempt counter and the wait cleared (R521). -/
def Mmsl.restart (m : Mmsl) (v : VState) : Mmsl := { m.setVstat v with vcount := 0, waiting := false }

/-- The stored bits of MMSL_CONTROL: VDIS, PEN, RXEMAC, ADDFRAG, VTIME (10_state R61). -/
def mmControlStored : Word := 0x0000FF3D#32

/-- The reserved bits of MMSL_CONTROL. -/
def mmControlRsvd : Word := 0xFFFF00C0#32

/-- What a legal MMSL_CONTROL write does (R527, R528), in the rule's order. -/
def Mmsl.writeControl (m : Mmsl) (v : Word) : Mmsl :=
  let old := m.control
  let m1 := { m with control := v &&& mmControlStored }
  let m2 :=
    if mmPen old && !mmPen v then m1.restart .idle
    else if !mmVdis old && mmVdis v && decide (m1.vstat ≠ .idle) then m1.restart .idle
    else if mmPen v && !mmVdis v && (!mmPen old || mmVdis old) then m1.restart .verifying
    else m1
  if mmRstVer v && mmPen v && !mmVdis v then m2.restart .verifying else m2

/-- A register of the MMSL; an eMAC has none (10_state R31). -/
def mmslReg (off : Nat) (d : Dev) (op : MmioOp) (s : State) (access : Result) : Result :=
  whenPresent d.hasMmsl off op s access

/-- The state with the MMSL of device `d`'s physical MAC changed by `f`. -/
def modMmsl (s : State) (m : Mac) (f : Mmsl → Mmsl) : State := s.setMmsl m (f (s.mmsl m))

/-- `MMSL_CONTROL` (R222). -/
def execMmslControl (d : Dev) (op : MmioOp) (s : State) : Result :=
  mmslReg 0x800 d op s <|
    rwReg 0x800 mmControlRsvd (s.mmsl (macOf d)).control
      (fun v =>
        if mmVtime v = 0 ∨ 128 < mmVtime v then .fault .illegalVerifyTime
        else .next (modMmsl s (macOf d) fun m => m.writeControl v))
      op s

/-- `MMSL_STATUS` (R223). -/
def execMmslStatus (d : Dev) (op : MmioOp) (s : State) : Result :=
  mmslReg 0x804 d op s <|
    roReg (bitAt 2 (s.mmsl (macOf d)).pactive ||| (s.mmsl (macOf d)).vstat.code.setWidth 32) op s

/-- `MMSL_ASS_ERR` (R224). -/
def execMmslAssErr (d : Dev) (op : MmioOp) (s : State) : Result :=
  mmslReg 0x808 d op s <|
    corReg (s.mmsl (macOf d)).assErr (modMmsl s (macOf d) fun m => { m with assErr := 0 }) op s

/-- `MMSL_ASS_OK` (R224). -/
def execMmslAssOk (d : Dev) (op : MmioOp) (s : State) : Result :=
  mmslReg 0x80C d op s <|
    corReg (s.mmsl (macOf d)).assOk (modMmsl s (macOf d) fun m => { m with assOk := 0 }) op s

/-- `MMSL_FRAG_RX` (R224). -/
def execMmslFragRx (d : Dev) (op : MmioOp) (s : State) : Result :=
  mmslReg 0x810 d op s <|
    corReg (s.mmsl (macOf d)).fragRx (modMmsl s (macOf d) fun m => { m with fragRx := 0 }) op s

/-- `MMSL_FRAG_TX` (R224). -/
def execMmslFragTx (d : Dev) (op : MmioOp) (s : State) : Result :=
  mmslReg 0x814 d op s <|
    corReg (s.mmsl (macOf d)).fragTx (modMmsl s (macOf d) fun m => { m with fragTx := 0 }) op s

/-- `MMSL_INT_STATUS` (R225). -/
def execMmslIntStatus (d : Dev) (op : MmioOp) (s : State) : Result :=
  mmslReg 0x818 d op s <|
    corReg (s.mmsl (macOf d)).intStatus (modMmsl s (macOf d) fun m => { m with intStatus := 0 }) op s

/-- `MMSL_INT_EN` (R226). -/
def execMmslIntEn (d : Dev) (op : MmioOp) (s : State) : Result :=
  mmslReg 0x81C d op s <|
    cmdReg (fun v => modMmsl s (macOf d) fun m => { m with intMask := m.intMask &&& ~~~(v &&& mmIntImpl) }) op s

/-- `MMSL_INT_DIS` (R226). -/
def execMmslIntDis (d : Dev) (op : MmioOp) (s : State) : Result :=
  mmslReg 0x820 d op s <|
    cmdReg (fun v => modMmsl s (macOf d) fun m => { m with intMask := m.intMask ||| (v &&& mmIntImpl) }) op s

/-- `MMSL_INT_MASK` (R226). -/
def execMmslIntMask (d : Dev) (op : MmioOp) (s : State) : Result :=
  mmslReg 0x824 d op s <|
    roReg (s.mmsl (macOf d)).intMask op s

/-! ### Steps. A step that is not enabled is passed over (log 3). -/

/-- `MM_SEND_VERIFY` (R529). -/
def runSendVerify (m : Mac) (s : State) : Result :=
  let y := s.mmsl m
  if y.vstat = .verifying ∧ y.waiting = false ∧ y.vcount < s.cfg.verifyLimit then
    .next { modMmsl s m (fun z => { z with vcount := z.vcount + 1, waiting := true }) with
      lineOut := s.lineOut ++ [.verify m] }
  else .next s

/-- What a timeout does to an MMSL that waits (R530; log 29). -/
def Mmsl.timeout (y : Mmsl) (limit : Nat) : Mmsl :=
  if y.vcount = limit then { y.setVstat .failed with waiting := false } else { y with waiting := false }

/-- `MM_TIMEOUT` (R530). -/
def runTimeout (m : Mac) (s : State) : Result :=
  if (s.mmsl m).waiting then .next (modMmsl s m fun y => y.timeout s.cfg.verifyLimit) else .next s

/-- `MM_RX_RESPOND` (R531). -/
def runRxRespond (m : Mac) (s : State) : Result :=
  if (s.mmsl m).vstat = .verifying then
    .next (modMmsl s m fun y => { y.setVstat .succeeded with waiting := false })
  else .next s

/-- `MM_RX_VERIFY` (R532). -/
def runRxVerify (m : Mac) (s : State) : Result :=
  if mmPen (s.mmsl m).control then .next (modMmsl s m fun y => { y with respondOwed := y.respondOwed + 1 })
  else .next s

/-- `MM_SEND_RESPOND` (R533). -/
def runSendRespond (m : Mac) (s : State) : Result :=
  if 0 < (s.mmsl m).respondOwed then
    .next { modMmsl s m (fun y => { y with respondOwed := y.respondOwed - 1 }) with
      lineOut := s.lineOut ++ [.respond m] }
  else .next s

/-! ### Accounting of frames -/

/-- The receive accounting of a preemptable frame in `k` fragments (R543-R545; log 24). -/
def Mmsl.countRx (y : Mmsl) (k : Nat) (aerr : Bool) : Mmsl :=
  let y1 := { y with fragRx := bump y.fragRx (k - 1) }
  if aerr then { y1 with assErr := bump y1.assErr 1, intStatus := y1.intStatus ||| mmAerr }
  else if 2 ≤ k then { y1 with assOk := bump y1.assOk 1 }
  else y1

/-- The transmit accounting of a preemptable frame in `k` fragments (R542). -/
def Mmsl.countTx (y : Mmsl) (k : Nat) : Mmsl := { y with fragTx := bump y.fragTx (k - 1) }

/-- The largest number of fragments of a preemptable frame of `n` bytes (R538). -/
def maxFrags (n addFrag : Nat) : Nat := max 1 (n / (64 * (1 + addFrag)))

end Sys2Proof.Machine
end

