-- ==== Sys2Proof/Machine/Queues.lean ====
section
/-! DEFINITION. The queue registers: ring base pointers (40_registers R195, R196) and receive buffer sizes (R216). -/

namespace Sys2Proof.Machine

/-- The reserved bits 2:1 of a queue pointer register (10_state R38). -/
def queuePtrRsvd : Word := 0x00000006#32

/-- The ring base a queue pointer write gives: bits 31:3 (30_encoding R144). -/
def queueBase (v : Word) : Word := v &&& 0xFFFFFFF8#32

/-- The value a queue pointer reads: the current pointer's bits 31:3 and QDIS (R195). -/
def queuePtrValue (cur : Word) (qdis : Bool) : Word := queueBase cur ||| bitAt 0 qdis

/-- A queue pointer register (R195, R196), the checks of a write in the rule's order (log 18): `enabled` is the
direction's enable bit, `store` the queue after a write. -/
def queuePtrReg (d : Dev) (q : Fin 4) (off : Nat) (enabled : Bool) (value : Word) (store : Word → Queue → Queue)
    (op : MmioOp) (s : State) : Result :=
  whenPresent (decide (q.val < s.cfg.nQueues d)) off op s <|
    match op with
    | .read => readAs value s
    | .write v =>
      if enabled then .fault .queuePointerWriteWhileEnabled
      else if q = 0 && v.getLsbD 0 then .refused .queue0Disable
      else if v &&& queuePtrRsvd ≠ 0 then .fault (.reservedBitWritten off (v &&& queuePtrRsvd))
      else .next (s.modDev d fun x => x.modQueue q (store v))

/-- The queue after a TX pointer write (R195). -/
def Queue.setTxPtr (v : Word) (y : Queue) : Queue :=
  { y with txBase := queueBase v, txCur := queueBase v, txQdis := v.getLsbD 0 }

/-- The queue after an RX pointer write (R196). -/
def Queue.setRxPtr (v : Word) (y : Queue) : Queue :=
  { y with rxBase := queueBase v, rxCur := queueBase v, rxQdis := v.getLsbD 0 }

/-- The TX queue base pointer of queue `q` at offset `off` (R195). -/
def txPtrReg (q : Fin 4) (off : Nat) (d : Dev) (op : MmioOp) (s : State) : Result :=
  queuePtrReg d q off (ncrTe (s.dev d).ncr)
    (queuePtrValue ((s.dev d).queue q).txCur ((s.dev d).queue q).txQdis) Queue.setTxPtr op s

/-- The RX queue base pointer of queue `q` at offset `off` (R196). -/
def rxPtrReg (q : Fin 4) (off : Nat) (d : Dev) (op : MmioOp) (s : State) : Result :=
  queuePtrReg d q off (ncrRe (s.dev d).ncr)
    (queuePtrValue ((s.dev d).queue q).rxCur ((s.dev d).queue q).rxQdis) Queue.setRxPtr op s

/-- The receive buffer size of queue `k + 1` (R216; bits of 10_state R55). -/
def rxBufReg (k : Fin 3) (d : Dev) (op : MmioOp) (s : State) : Result :=
  whenPresent (decide (k.val + 1 < s.cfg.nQueues d)) (0x4A0 + 4 * k.val) op s <|
    rwReg (0x4A0 + 4 * k.val) 0xFFFFFF00#32 (s.dev d).rxBufSize[k]
      (fun v => .next (s.modDev d fun x => { x with rxBufSize := x.rxBufSize.set k v })) op s

/-- `TXQBQP` (R195). -/
def execTxqbqp (d : Dev) (op : MmioOp) (s : State) : Result :=
  txPtrReg 0 0x01C d op s

/-- `RXQBQP` (R196). -/
def execRxqbqp (d : Dev) (op : MmioOp) (s : State) : Result :=
  rxPtrReg 0 0x018 d op s

/-- `TXQBQP_Q[1]` (R195). -/
def execTxqbqpQ1 (d : Dev) (op : MmioOp) (s : State) : Result :=
  txPtrReg 1 0x440 d op s

/-- `TXQBQP_Q[2]` (R195). -/
def execTxqbqpQ2 (d : Dev) (op : MmioOp) (s : State) : Result :=
  txPtrReg 2 0x444 d op s

/-- `TXQBQP_Q[3]` (R195). -/
def execTxqbqpQ3 (d : Dev) (op : MmioOp) (s : State) : Result :=
  txPtrReg 3 0x448 d op s

/-- `RXQBQP_Q[1]` (R196). -/
def execRxqbqpQ1 (d : Dev) (op : MmioOp) (s : State) : Result :=
  rxPtrReg 1 0x480 d op s

/-- `RXQBQP_Q[2]` (R196). -/
def execRxqbqpQ2 (d : Dev) (op : MmioOp) (s : State) : Result :=
  rxPtrReg 2 0x484 d op s

/-- `RXQBQP_Q[3]` (R196). -/
def execRxqbqpQ3 (d : Dev) (op : MmioOp) (s : State) : Result :=
  rxPtrReg 3 0x488 d op s

/-- `RXBUF_SIZE_Q[1]` (R216). -/
def execRxbufSizeQ1 (d : Dev) (op : MmioOp) (s : State) : Result :=
  rxBufReg 0 d op s

/-- `RXBUF_SIZE_Q[2]` (R216). -/
def execRxbufSizeQ2 (d : Dev) (op : MmioOp) (s : State) : Result :=
  rxBufReg 1 d op s

/-- `RXBUF_SIZE_Q[3]` (R216). -/
def execRxbufSizeQ3 (d : Dev) (op : MmioOp) (s : State) : Result :=
  rxBufReg 2 d op s

end Sys2Proof.Machine
end

