-- ==== Sys2Proof/Machine/Screeners.lean ====
section
/-! DEFINITION. The screener and compare registers (40_registers R218-R221; bits of 10_state R57-R60). A register whose
number is at or beyond its parameter is unmapped (R31). -/

namespace Sys2Proof.Machine

/-- Register `t1[n]` (R218). -/
def t1Reg (n : Fin 16) (d : Dev) (op : MmioOp) (s : State) : Result :=
  whenPresent (decide (n.val < s.cfg.nT1)) (0x500 + 4 * n.val) op s <|
    rwReg (0x500 + 4 * n.val) 0x80000000#32 (s.dev d).t1[n]
      (fun v => .next (s.modDev d fun x => { x with t1 := x.t1.set n v })) op s

/-- Register `t2[n]` (R219). -/
def t2Reg (n : Fin 16) (d : Dev) (op : MmioOp) (s : State) : Result :=
  whenPresent (decide (n.val < s.cfg.nT2)) (0x540 + 4 * n.val) op s <|
    rwReg (0x540 + 4 * n.val) 0x00000080#32 (s.dev d).t2[n]
      (fun v => .next (s.modDev d fun x => { x with t2 := x.t2.set n v })) op s

/-- Register `ethtype[n]` (R220). -/
def ethtypeReg (n : Fin 8) (d : Dev) (op : MmioOp) (s : State) : Result :=
  whenPresent (decide (n.val < s.cfg.nEth)) (0x6E0 + 4 * n.val) op s <|
    rwReg (0x6E0 + 4 * n.val) 0xFFFF0000#32 (s.dev d).ethtype[n]
      (fun v => .next (s.modDev d fun x => { x with ethtype := x.ethtype.set n v })) op s

/-- Register `cmpW0[n]` (R221). -/
def cmpW0Reg (n : Fin 32) (d : Dev) (op : MmioOp) (s : State) : Result :=
  whenPresent (decide (n.val < s.cfg.nCmp)) (0x700 + 8 * n.val) op s <|
    rwReg (0x700 + 8 * n.val) 0x00000000#32 (s.dev d).cmpW0[n]
      (fun v => .next (s.modDev d fun x => { x with cmpW0 := x.cmpW0.set n v })) op s

/-- Register `cmpW1[n]` (R221). -/
def cmpW1Reg (n : Fin 32) (d : Dev) (op : MmioOp) (s : State) : Result :=
  whenPresent (decide (n.val < s.cfg.nCmp)) (0x704 + 8 * n.val) op s <|
    rwReg (0x704 + 8 * n.val) 0xFFFFFC00#32 (s.dev d).cmpW1[n]
      (fun v => .next (s.modDev d fun x => { x with cmpW1 := x.cmpW1.set n v })) op s

/-- `T1[0]` (R218). -/
def execT1_0 (d : Dev) (op : MmioOp) (s : State) : Result :=
  t1Reg 0 d op s

/-- `T1[1]` (R218). -/
def execT1_1 (d : Dev) (op : MmioOp) (s : State) : Result :=
  t1Reg 1 d op s

/-- `T1[2]` (R218). -/
def execT1_2 (d : Dev) (op : MmioOp) (s : State) : Result :=
  t1Reg 2 d op s

/-- `T1[3]` (R218). -/
def execT1_3 (d : Dev) (op : MmioOp) (s : State) : Result :=
  t1Reg 3 d op s

/-- `T2[0]` (R219). -/
def execT2_0 (d : Dev) (op : MmioOp) (s : State) : Result :=
  t2Reg 0 d op s

/-- `T2[1]` (R219). -/
def execT2_1 (d : Dev) (op : MmioOp) (s : State) : Result :=
  t2Reg 1 d op s

/-- `T2[2]` (R219). -/
def execT2_2 (d : Dev) (op : MmioOp) (s : State) : Result :=
  t2Reg 2 d op s

/-- `T2[3]` (R219). -/
def execT2_3 (d : Dev) (op : MmioOp) (s : State) : Result :=
  t2Reg 3 d op s

/-- `ETHTYPE[0]` (R220). -/
def execEthtype_0 (d : Dev) (op : MmioOp) (s : State) : Result :=
  ethtypeReg 0 d op s

/-- `ETHTYPE[1]` (R220). -/
def execEthtype_1 (d : Dev) (op : MmioOp) (s : State) : Result :=
  ethtypeReg 1 d op s

/-- `ETHTYPE[2]` (R220). -/
def execEthtype_2 (d : Dev) (op : MmioOp) (s : State) : Result :=
  ethtypeReg 2 d op s

/-- `ETHTYPE[3]` (R220). -/
def execEthtype_3 (d : Dev) (op : MmioOp) (s : State) : Result :=
  ethtypeReg 3 d op s

/-- `CMP_W0[0]` (R221). -/
def execCmpW0_0 (d : Dev) (op : MmioOp) (s : State) : Result :=
  cmpW0Reg 0 d op s

/-- `CMP_W1[0]` (R221). -/
def execCmpW1_0 (d : Dev) (op : MmioOp) (s : State) : Result :=
  cmpW1Reg 0 d op s

/-- `CMP_W0[1]` (R221). -/
def execCmpW0_1 (d : Dev) (op : MmioOp) (s : State) : Result :=
  cmpW0Reg 1 d op s

/-- `CMP_W1[1]` (R221). -/
def execCmpW1_1 (d : Dev) (op : MmioOp) (s : State) : Result :=
  cmpW1Reg 1 d op s

/-- `CMP_W0[2]` (R221). -/
def execCmpW0_2 (d : Dev) (op : MmioOp) (s : State) : Result :=
  cmpW0Reg 2 d op s

/-- `CMP_W1[2]` (R221). -/
def execCmpW1_2 (d : Dev) (op : MmioOp) (s : State) : Result :=
  cmpW1Reg 2 d op s

/-- `CMP_W0[3]` (R221). -/
def execCmpW0_3 (d : Dev) (op : MmioOp) (s : State) : Result :=
  cmpW0Reg 3 d op s

/-- `CMP_W1[3]` (R221). -/
def execCmpW1_3 (d : Dev) (op : MmioOp) (s : State) : Result :=
  cmpW1Reg 3 d op s

/-- `CMP_W0[4]` (R221). -/
def execCmpW0_4 (d : Dev) (op : MmioOp) (s : State) : Result :=
  cmpW0Reg 4 d op s

/-- `CMP_W1[4]` (R221). -/
def execCmpW1_4 (d : Dev) (op : MmioOp) (s : State) : Result :=
  cmpW1Reg 4 d op s

/-- `CMP_W0[5]` (R221). -/
def execCmpW0_5 (d : Dev) (op : MmioOp) (s : State) : Result :=
  cmpW0Reg 5 d op s

/-- `CMP_W1[5]` (R221). -/
def execCmpW1_5 (d : Dev) (op : MmioOp) (s : State) : Result :=
  cmpW1Reg 5 d op s

/-- `CMP_W0[6]` (R221). -/
def execCmpW0_6 (d : Dev) (op : MmioOp) (s : State) : Result :=
  cmpW0Reg 6 d op s

/-- `CMP_W1[6]` (R221). -/
def execCmpW1_6 (d : Dev) (op : MmioOp) (s : State) : Result :=
  cmpW1Reg 6 d op s

/-- `CMP_W0[7]` (R221). -/
def execCmpW0_7 (d : Dev) (op : MmioOp) (s : State) : Result :=
  cmpW0Reg 7 d op s

/-- `CMP_W1[7]` (R221). -/
def execCmpW1_7 (d : Dev) (op : MmioOp) (s : State) : Result :=
  cmpW1Reg 7 d op s

/-- `CMP_W0[8]` (R221). -/
def execCmpW0_8 (d : Dev) (op : MmioOp) (s : State) : Result :=
  cmpW0Reg 8 d op s

/-- `CMP_W1[8]` (R221). -/
def execCmpW1_8 (d : Dev) (op : MmioOp) (s : State) : Result :=
  cmpW1Reg 8 d op s

/-- `CMP_W0[9]` (R221). -/
def execCmpW0_9 (d : Dev) (op : MmioOp) (s : State) : Result :=
  cmpW0Reg 9 d op s

/-- `CMP_W1[9]` (R221). -/
def execCmpW1_9 (d : Dev) (op : MmioOp) (s : State) : Result :=
  cmpW1Reg 9 d op s

/-- `CMP_W0[10]` (R221). -/
def execCmpW0_10 (d : Dev) (op : MmioOp) (s : State) : Result :=
  cmpW0Reg 10 d op s

/-- `CMP_W1[10]` (R221). -/
def execCmpW1_10 (d : Dev) (op : MmioOp) (s : State) : Result :=
  cmpW1Reg 10 d op s

/-- `CMP_W0[11]` (R221). -/
def execCmpW0_11 (d : Dev) (op : MmioOp) (s : State) : Result :=
  cmpW0Reg 11 d op s

/-- `CMP_W1[11]` (R221). -/
def execCmpW1_11 (d : Dev) (op : MmioOp) (s : State) : Result :=
  cmpW1Reg 11 d op s

/-- An access at an offset of the window that no row of the opcode table lists. Registers that only a configuration
above the default counts has (00_scope R7; log 8) are reached here; every other such offset is unmapped (R143). -/
def accessUnlisted (d : Dev) (off : Nat) (op : MmioOp) (s : State) : Result :=
  if 0x510 ≤ off ∧ off < 0x540 then t1Reg (Fin.ofNat 16 ((off - 0x500) / 4)) d op s
  else if 0x550 ≤ off ∧ off < 0x580 then t2Reg (Fin.ofNat 16 ((off - 0x540) / 4)) d op s
  else if 0x6F0 ≤ off ∧ off < 0x700 then ethtypeReg (Fin.ofNat 8 ((off - 0x6E0) / 4)) d op s
  else if 0x760 ≤ off ∧ off < 0x800 then
    if off % 8 = 0 then cmpW0Reg (Fin.ofNat 32 ((off - 0x700) / 8)) d op s
    else cmpW1Reg (Fin.ofNat 32 ((off - 0x704) / 8)) d op s
  else unmapped off op s

end Sys2Proof.Machine
end

