-- ==== Sys2Proof/Machine/Stats.lean ====
section
/-! DEFINITION. The statistics counters (46_statistics R561-R606): clear on read, writes ignored. -/

namespace Sys2Proof.Machine

/-- A 32-bit counter (R188). -/
def statReg (c : Stat) (d : Dev) (op : MmioOp) (s : State) : Result :=
  corReg (s.dev d).stats[statIndex c] (s.modDev d fun x => { x with stats := x.stats.set (statIndex c) 0 }) op s

/-- `OCT_TX_LO` (R561). -/
def execOctTxLo (d : Dev) (op : MmioOp) (s : State) : Result :=
  corReg ((s.dev d).octTx.extractLsb' 0 32)
    (s.modDev d fun x => { x with octTxShadow := x.octTx.extractLsb' 32 16, octTx := 0 }) op s

/-- `OCT_TX_HI` (R562). -/
def execOctTxHi (d : Dev) (op : MmioOp) (s : State) : Result :=
  corReg ((s.dev d).octTxShadow.setWidth 32) (s.modDev d fun x => { x with octTxShadow := 0 }) op s

/-- `OCT_RX_LO` (R581). -/
def execOctRxLo (d : Dev) (op : MmioOp) (s : State) : Result :=
  corReg ((s.dev d).octRx.extractLsb' 0 32)
    (s.modDev d fun x => { x with octRxShadow := x.octRx.extractLsb' 32 16, octRx := 0 }) op s

/-- `OCT_RX_HI` (R582). -/
def execOctRxHi (d : Dev) (op : MmioOp) (s : State) : Result :=
  corReg ((s.dev d).octRxShadow.setWidth 32) (s.modDev d fun x => { x with octRxShadow := 0 }) op s

/-- `FRAMES_TX` (R563). -/
def execFramesTx (d : Dev) (op : MmioOp) (s : State) : Result :=
  statReg .framesTx d op s

/-- `BCAST_TX` (R564). -/
def execBcastTx (d : Dev) (op : MmioOp) (s : State) : Result :=
  statReg .bcastTx d op s

/-- `MCAST_TX` (R565). -/
def execMcastTx (d : Dev) (op : MmioOp) (s : State) : Result :=
  statReg .mcastTx d op s

/-- `PAUSE_TX` (R566). -/
def execPauseTx (d : Dev) (op : MmioOp) (s : State) : Result :=
  statReg .pauseTx d op s

/-- `FRAMES_64_TX` (R567). -/
def execFrames64Tx (d : Dev) (op : MmioOp) (s : State) : Result :=
  statReg .frames64Tx d op s

/-- `FRAMES_65_127_TX` (R568). -/
def execFrames65to127Tx (d : Dev) (op : MmioOp) (s : State) : Result :=
  statReg .frames65to127Tx d op s

/-- `FRAMES_128_255_TX` (R569). -/
def execFrames128to255Tx (d : Dev) (op : MmioOp) (s : State) : Result :=
  statReg .frames128to255Tx d op s

/-- `FRAMES_256_511_TX` (R570). -/
def execFrames256to511Tx (d : Dev) (op : MmioOp) (s : State) : Result :=
  statReg .frames256to511Tx d op s

/-- `FRAMES_512_1023_TX` (R571). -/
def execFrames512to1023Tx (d : Dev) (op : MmioOp) (s : State) : Result :=
  statReg .frames512to1023Tx d op s

/-- `FRAMES_1024_1518_TX` (R572). -/
def execFrames1024to1518Tx (d : Dev) (op : MmioOp) (s : State) : Result :=
  statReg .frames1024to1518Tx d op s

/-- `FRAMES_1519_TX` (R573). -/
def execFrames1519Tx (d : Dev) (op : MmioOp) (s : State) : Result :=
  statReg .frames1519Tx d op s

/-- `TX_UNDERRUNS` (R574). -/
def execTxUnderruns (d : Dev) (op : MmioOp) (s : State) : Result :=
  statReg .txUnderruns d op s

/-- `SINGLE_COLLISIONS` (R575). -/
def execSingleCollisions (d : Dev) (op : MmioOp) (s : State) : Result :=
  statReg .singleCollisions d op s

/-- `MULTIPLE_COLLISIONS` (R576). -/
def execMultipleCollisions (d : Dev) (op : MmioOp) (s : State) : Result :=
  statReg .multipleCollisions d op s

/-- `EXCESSIVE_COLLISIONS` (R577). -/
def execExcessiveCollisions (d : Dev) (op : MmioOp) (s : State) : Result :=
  statReg .excessiveCollisions d op s

/-- `LATE_COLLISIONS` (R578). -/
def execLateCollisions (d : Dev) (op : MmioOp) (s : State) : Result :=
  statReg .lateCollisions d op s

/-- `DEFERRED_TX` (R579). -/
def execDeferredTx (d : Dev) (op : MmioOp) (s : State) : Result :=
  statReg .deferredTx d op s

/-- `CRS_ERRORS` (R580). -/
def execCrsErrors (d : Dev) (op : MmioOp) (s : State) : Result :=
  statReg .crsErrors d op s

/-- `FRAMES_RX` (R583). -/
def execFramesRx (d : Dev) (op : MmioOp) (s : State) : Result :=
  statReg .framesRx d op s

/-- `BCAST_RX` (R584). -/
def execBcastRx (d : Dev) (op : MmioOp) (s : State) : Result :=
  statReg .bcastRx d op s

/-- `MCAST_RX` (R585). -/
def execMcastRx (d : Dev) (op : MmioOp) (s : State) : Result :=
  statReg .mcastRx d op s

/-- `PAUSE_RX` (R586). -/
def execPauseRx (d : Dev) (op : MmioOp) (s : State) : Result :=
  statReg .pauseRx d op s

/-- `FRAMES_64_RX` (R587). -/
def execFrames64Rx (d : Dev) (op : MmioOp) (s : State) : Result :=
  statReg .frames64Rx d op s

/-- `FRAMES_65_127_RX` (R588). -/
def execFrames65to127Rx (d : Dev) (op : MmioOp) (s : State) : Result :=
  statReg .frames65to127Rx d op s

/-- `FRAMES_128_255_RX` (R589). -/
def execFrames128to255Rx (d : Dev) (op : MmioOp) (s : State) : Result :=
  statReg .frames128to255Rx d op s

/-- `FRAMES_256_511_RX` (R590). -/
def execFrames256to511Rx (d : Dev) (op : MmioOp) (s : State) : Result :=
  statReg .frames256to511Rx d op s

/-- `FRAMES_512_1023_RX` (R591). -/
def execFrames512to1023Rx (d : Dev) (op : MmioOp) (s : State) : Result :=
  statReg .frames512to1023Rx d op s

/-- `FRAMES_1024_1518_RX` (R592). -/
def execFrames1024to1518Rx (d : Dev) (op : MmioOp) (s : State) : Result :=
  statReg .frames1024to1518Rx d op s

/-- `FRAMES_1519_RX` (R593). -/
def execFrames1519Rx (d : Dev) (op : MmioOp) (s : State) : Result :=
  statReg .frames1519Rx d op s

/-- `UNDERSIZE_RX` (R594). -/
def execUndersizeRx (d : Dev) (op : MmioOp) (s : State) : Result :=
  statReg .undersizeRx d op s

/-- `OVERSIZE_RX` (R595). -/
def execOversizeRx (d : Dev) (op : MmioOp) (s : State) : Result :=
  statReg .oversizeRx d op s

/-- `JABBERS_RX` (R596). -/
def execJabbersRx (d : Dev) (op : MmioOp) (s : State) : Result :=
  statReg .jabbersRx d op s

/-- `FCS_ERRORS_RX` (R597). -/
def execFcsErrorsRx (d : Dev) (op : MmioOp) (s : State) : Result :=
  statReg .fcsErrorsRx d op s

/-- `LENGTH_ERRORS_RX` (R598). -/
def execLengthErrorsRx (d : Dev) (op : MmioOp) (s : State) : Result :=
  statReg .lengthErrorsRx d op s

/-- `SYMBOL_ERRORS_RX` (R599). -/
def execSymbolErrorsRx (d : Dev) (op : MmioOp) (s : State) : Result :=
  statReg .symbolErrorsRx d op s

/-- `ALIGNMENT_ERRORS_RX` (R600). -/
def execAlignmentErrorsRx (d : Dev) (op : MmioOp) (s : State) : Result :=
  statReg .alignmentErrorsRx d op s

/-- `RESOURCE_ERRORS_RX` (R601). -/
def execResourceErrorsRx (d : Dev) (op : MmioOp) (s : State) : Result :=
  statReg .resourceErrorsRx d op s

/-- `OVERRUNS_RX` (R602). -/
def execOverrunsRx (d : Dev) (op : MmioOp) (s : State) : Result :=
  statReg .overrunsRx d op s

/-- `IP_CHECKSUM_ERRORS_RX` (R603). -/
def execIpChecksumErrorsRx (d : Dev) (op : MmioOp) (s : State) : Result :=
  statReg .ipChecksumErrorsRx d op s

/-- `TCP_CHECKSUM_ERRORS_RX` (R604). -/
def execTcpChecksumErrorsRx (d : Dev) (op : MmioOp) (s : State) : Result :=
  statReg .tcpChecksumErrorsRx d op s

/-- `UDP_CHECKSUM_ERRORS_RX` (R605). -/
def execUdpChecksumErrorsRx (d : Dev) (op : MmioOp) (s : State) : Result :=
  statReg .udpChecksumErrorsRx d op s

/-- `AUTO_FLUSHED_RX` (R606). -/
def execAutoFlushedRx (d : Dev) (op : MmioOp) (s : State) : Result :=
  statReg .autoFlushedRx d op s

end Sys2Proof.Machine
end

