-- ==== Sys2Proof/Machine/TimeStamp.lean ====
section
/-! DEFINITION. The time stamp unit: its registers (40_registers R210-R214), the PTP event registers (R215) and its tick
(44_tsu R462). -/

namespace Sys2Proof.Machine

/-- The device with its TSU changed by `f`. -/
def Device.modTsu (x : Device) (f : Tsu → Tsu) : Device := { x with tsu := f x.tsu }

/-- `TSU_SUB_INC` (R210). -/
def execTsuSubInc (d : Dev) (op : MmioOp) (s : State) : Result :=
  rwReg 0x1BC 0xFF000000#32 (s.dev d).tsu.subInc
    (fun v => .next (s.modDev d fun x => x.modTsu fun t => { t with subInc := v })) op s

/-- `TSU_SEC_HI` (R211). -/
def execTsuSecHi (d : Dev) (op : MmioOp) (s : State) : Result :=
  rwReg 0x1C0 0 ((s.dev d).tsu.sec.extractLsb' 32 32)
    (fun v => .next (s.modDev d fun x => x.modTsu fun t => { t with sec := v ++ t.sec.extractLsb' 0 32 })) op s

/-- `TSU_SEC_LO` (R212). -/
def execTsuSecLo (d : Dev) (op : MmioOp) (s : State) : Result :=
  rwReg 0x1D0 0 ((s.dev d).tsu.sec.extractLsb' 0 32)
    (fun v => .next (s.modDev d fun x => x.modTsu fun t => { t with sec := t.sec.extractLsb' 32 32 ++ v })) op s

/-- `TSU_NSEC` (R213). -/
def execTsuNsec (d : Dev) (op : MmioOp) (s : State) : Result :=
  rwReg 0x1D4 0xC0000000#32 ((s.dev d).tsu.ns.setWidth 32)
    (fun v =>
      if s.cfg.nsRollover ≤ field v 0 30 then .fault .illegalNanoseconds
      else .next (s.modDev d fun x => x.modTsu fun t => { t with ns := v.extractLsb' 0 30, acc := 0 }))
    op s

/-- `TSU_INC` (R214). -/
def execTsuInc (d : Dev) (op : MmioOp) (s : State) : Result :=
  rwReg 0x1DC 0xFFFFFF00#32 (s.dev d).tsu.inc
    (fun v => .next (s.modDev d fun x => x.modTsu fun t => { t with inc := v })) op s

/-- `PTP_TX_SEC` (R215). -/
def execPtpTxSec (d : Dev) (op : MmioOp) (s : State) : Result :=
  roReg (s.dev d).ptp.txSec op s

/-- `PTP_TX_NSEC` (R215). -/
def execPtpTxNsec (d : Dev) (op : MmioOp) (s : State) : Result :=
  roReg (s.dev d).ptp.txNsec op s

/-- `PTP_RX_SEC` (R215). -/
def execPtpRxSec (d : Dev) (op : MmioOp) (s : State) : Result :=
  roReg (s.dev d).ptp.rxSec op s

/-- `PTP_RX_NSEC` (R215). -/
def execPtpRxNsec (d : Dev) (op : MmioOp) (s : State) : Result :=
  roReg (s.dev d).ptp.rxNsec op s

/-- `PEER_TX_SEC` (R215). -/
def execPeerTxSec (d : Dev) (op : MmioOp) (s : State) : Result :=
  roReg (s.dev d).ptp.peerTxSec op s

/-- `PEER_TX_NSEC` (R215). -/
def execPeerTxNsec (d : Dev) (op : MmioOp) (s : State) : Result :=
  roReg (s.dev d).ptp.peerTxNsec op s

/-- `PEER_RX_SEC` (R215). -/
def execPeerRxSec (d : Dev) (op : MmioOp) (s : State) : Result :=
  roReg (s.dev d).ptp.peerRxSec op s

/-- `PEER_RX_NSEC` (R215). -/
def execPeerRxNsec (d : Dev) (op : MmioOp) (s : State) : Result :=
  roReg (s.dev d).ptp.peerRxNsec op s

/-- The TSU after a tick, and whether the seconds moved (R462). -/
def Tsu.tick (t : Tsu) (rollover : Nat) : Tsu × Bool :=
  let a := t.acc.toNat + tsuSubNs t.subInc
  let n := t.ns.toNat + tsuNsInc t.inc + a / 2 ^ 24
  if rollover ≤ n then
    ({ t with acc := BitVec.ofNat 24 a, ns := BitVec.ofNat 30 (n - rollover), sec := t.sec + 1 }, true)
  else ({ t with acc := BitVec.ofNat 24 a, ns := BitVec.ofNat 30 n }, false)

/-- `TSU_TICK` (R462). -/
def Device.tsuTick (x : Device) (rollover : Nat) : Device :=
  let r := x.tsu.tick rollover
  if r.2 then { x with tsu := r.1 }.irqDevice isrTsuSri else { x with tsu := r.1 }

/-- `TSU_TICK` of device `d`, enabled always (R461). -/
def runTsuTick (d : Dev) (s : State) : Result := .next (s.modDev d fun x => x.tsuTick s.cfg.nsRollover)

end Sys2Proof.Machine
end

