-- ==== Sys2Proof/Machine/Dispatch.lean ====
section
/-! DEFINITION. One arm per register access of the opcode table. -/

namespace Sys2Proof.Machine

/-- The meaning of a register access. -/
def exec (i : Instr) (s : State) : Host.Outcome State Fault Refusal :=
  match i with
  | .ncrRead d => Sys2Proof.Machine.execNcrRead d s
  | .ncrWrite d v => Sys2Proof.Machine.execNcrWrite d v s
  | .ncfgr d op => Sys2Proof.Machine.execNcfgr d op s
  | .dmacfg d op => Sys2Proof.Machine.execDmacfg d op s
  | .tsr d op => Sys2Proof.Machine.execTsr d op s
  | .rxqbqp d op => Sys2Proof.Machine.execRxqbqp d op s
  | .txqbqp d op => Sys2Proof.Machine.execTxqbqp d op s
  | .rsr d op => Sys2Proof.Machine.execRsr d op s
  | .isr d op => Sys2Proof.Machine.execIsr d op s
  | .ier d op => Sys2Proof.Machine.execIer d op s
  | .idr d op => Sys2Proof.Machine.execIdr d op s
  | .imr d op => Sys2Proof.Machine.execImr d op s
  | .jml d op => Sys2Proof.Machine.execJml d op s
  | .hrb d op => Sys2Proof.Machine.execHrb d op s
  | .hrt d op => Sys2Proof.Machine.execHrt d op s
  | .sa1b d op => Sys2Proof.Machine.execSa1b d op s
  | .sa1t d op => Sys2Proof.Machine.execSa1t d op s
  | .sa2b d op => Sys2Proof.Machine.execSa2b d op s
  | .sa2t d op => Sys2Proof.Machine.execSa2t d op s
  | .sa3b d op => Sys2Proof.Machine.execSa3b d op s
  | .sa3t d op => Sys2Proof.Machine.execSa3t d op s
  | .sa4b d op => Sys2Proof.Machine.execSa4b d op s
  | .sa4t d op => Sys2Proof.Machine.execSa4t d op s
  | .tidm1 d op => Sys2Proof.Machine.execTidm1 d op s
  | .tidm2 d op => Sys2Proof.Machine.execTidm2 d op s
  | .tidm3 d op => Sys2Proof.Machine.execTidm3 d op s
  | .tidm4 d op => Sys2Proof.Machine.execTidm4 d op s
  | .stackedVlan d op => Sys2Proof.Machine.execStackedVlan d op s
  | .rxPtpUnicast d op => Sys2Proof.Machine.execRxPtpUnicast d op s
  | .txPtpUnicast d op => Sys2Proof.Machine.execTxPtpUnicast d op s
  | .moduleId d op => Sys2Proof.Machine.execModuleId d op s
  | .octTxLo d op => Sys2Proof.Machine.execOctTxLo d op s
  | .octTxHi d op => Sys2Proof.Machine.execOctTxHi d op s
  | .framesTx d op => Sys2Proof.Machine.execFramesTx d op s
  | .bcastTx d op => Sys2Proof.Machine.execBcastTx d op s
  | .mcastTx d op => Sys2Proof.Machine.execMcastTx d op s
  | .pauseTx d op => Sys2Proof.Machine.execPauseTx d op s
  | .frames64Tx d op => Sys2Proof.Machine.execFrames64Tx d op s
  | .frames65to127Tx d op => Sys2Proof.Machine.execFrames65to127Tx d op s
  | .frames128to255Tx d op => Sys2Proof.Machine.execFrames128to255Tx d op s
  | .frames256to511Tx d op => Sys2Proof.Machine.execFrames256to511Tx d op s
  | .frames512to1023Tx d op => Sys2Proof.Machine.execFrames512to1023Tx d op s
  | .frames1024to1518Tx d op => Sys2Proof.Machine.execFrames1024to1518Tx d op s
  | .frames1519Tx d op => Sys2Proof.Machine.execFrames1519Tx d op s
  | .txUnderruns d op => Sys2Proof.Machine.execTxUnderruns d op s
  | .singleCollisions d op => Sys2Proof.Machine.execSingleCollisions d op s
  | .multipleCollisions d op => Sys2Proof.Machine.execMultipleCollisions d op s
  | .excessiveCollisions d op => Sys2Proof.Machine.execExcessiveCollisions d op s
  | .lateCollisions d op => Sys2Proof.Machine.execLateCollisions d op s
  | .deferredTx d op => Sys2Proof.Machine.execDeferredTx d op s
  | .crsErrors d op => Sys2Proof.Machine.execCrsErrors d op s
  | .octRxLo d op => Sys2Proof.Machine.execOctRxLo d op s
  | .octRxHi d op => Sys2Proof.Machine.execOctRxHi d op s
  | .framesRx d op => Sys2Proof.Machine.execFramesRx d op s
  | .bcastRx d op => Sys2Proof.Machine.execBcastRx d op s
  | .mcastRx d op => Sys2Proof.Machine.execMcastRx d op s
  | .pauseRx d op => Sys2Proof.Machine.execPauseRx d op s
  | .frames64Rx d op => Sys2Proof.Machine.execFrames64Rx d op s
  | .frames65to127Rx d op => Sys2Proof.Machine.execFrames65to127Rx d op s
  | .frames128to255Rx d op => Sys2Proof.Machine.execFrames128to255Rx d op s
  | .frames256to511Rx d op => Sys2Proof.Machine.execFrames256to511Rx d op s
  | .frames512to1023Rx d op => Sys2Proof.Machine.execFrames512to1023Rx d op s
  | .frames1024to1518Rx d op => Sys2Proof.Machine.execFrames1024to1518Rx d op s
  | .frames1519Rx d op => Sys2Proof.Machine.execFrames1519Rx d op s
  | .undersizeRx d op => Sys2Proof.Machine.execUndersizeRx d op s
  | .oversizeRx d op => Sys2Proof.Machine.execOversizeRx d op s
  | .jabbersRx d op => Sys2Proof.Machine.execJabbersRx d op s
  | .fcsErrorsRx d op => Sys2Proof.Machine.execFcsErrorsRx d op s
  | .lengthErrorsRx d op => Sys2Proof.Machine.execLengthErrorsRx d op s
  | .symbolErrorsRx d op => Sys2Proof.Machine.execSymbolErrorsRx d op s
  | .alignmentErrorsRx d op => Sys2Proof.Machine.execAlignmentErrorsRx d op s
  | .resourceErrorsRx d op => Sys2Proof.Machine.execResourceErrorsRx d op s
  | .overrunsRx d op => Sys2Proof.Machine.execOverrunsRx d op s
  | .ipChecksumErrorsRx d op => Sys2Proof.Machine.execIpChecksumErrorsRx d op s
  | .tcpChecksumErrorsRx d op => Sys2Proof.Machine.execTcpChecksumErrorsRx d op s
  | .udpChecksumErrorsRx d op => Sys2Proof.Machine.execUdpChecksumErrorsRx d op s
  | .autoFlushedRx d op => Sys2Proof.Machine.execAutoFlushedRx d op s
  | .tsuSubInc d op => Sys2Proof.Machine.execTsuSubInc d op s
  | .tsuSecHi d op => Sys2Proof.Machine.execTsuSecHi d op s
  | .tsuSecLo d op => Sys2Proof.Machine.execTsuSecLo d op s
  | .tsuNsec d op => Sys2Proof.Machine.execTsuNsec d op s
  | .tsuInc d op => Sys2Proof.Machine.execTsuInc d op s
  | .ptpTxSec d op => Sys2Proof.Machine.execPtpTxSec d op s
  | .ptpTxNsec d op => Sys2Proof.Machine.execPtpTxNsec d op s
  | .ptpRxSec d op => Sys2Proof.Machine.execPtpRxSec d op s
  | .ptpRxNsec d op => Sys2Proof.Machine.execPtpRxNsec d op s
  | .peerTxSec d op => Sys2Proof.Machine.execPeerTxSec d op s
  | .peerTxNsec d op => Sys2Proof.Machine.execPeerTxNsec d op s
  | .peerRxSec d op => Sys2Proof.Machine.execPeerRxSec d op s
  | .peerRxNsec d op => Sys2Proof.Machine.execPeerRxNsec d op s
  | .isrQ1 d op => Sys2Proof.Machine.execIsrQ1 d op s
  | .isrQ2 d op => Sys2Proof.Machine.execIsrQ2 d op s
  | .isrQ3 d op => Sys2Proof.Machine.execIsrQ3 d op s
  | .txqbqpQ1 d op => Sys2Proof.Machine.execTxqbqpQ1 d op s
  | .txqbqpQ2 d op => Sys2Proof.Machine.execTxqbqpQ2 d op s
  | .txqbqpQ3 d op => Sys2Proof.Machine.execTxqbqpQ3 d op s
  | .rxqbqpQ1 d op => Sys2Proof.Machine.execRxqbqpQ1 d op s
  | .rxqbqpQ2 d op => Sys2Proof.Machine.execRxqbqpQ2 d op s
  | .rxqbqpQ3 d op => Sys2Proof.Machine.execRxqbqpQ3 d op s
  | .rxbufSizeQ1 d op => Sys2Proof.Machine.execRxbufSizeQ1 d op s
  | .rxbufSizeQ2 d op => Sys2Proof.Machine.execRxbufSizeQ2 d op s
  | .rxbufSizeQ3 d op => Sys2Proof.Machine.execRxbufSizeQ3 d op s
  | .txBdControl d op => Sys2Proof.Machine.execTxBdControl d op s
  | .rxBdControl d op => Sys2Proof.Machine.execRxBdControl d op s
  | .t1_0 d op => Sys2Proof.Machine.execT1_0 d op s
  | .t1_1 d op => Sys2Proof.Machine.execT1_1 d op s
  | .t1_2 d op => Sys2Proof.Machine.execT1_2 d op s
  | .t1_3 d op => Sys2Proof.Machine.execT1_3 d op s
  | .t2_0 d op => Sys2Proof.Machine.execT2_0 d op s
  | .t2_1 d op => Sys2Proof.Machine.execT2_1 d op s
  | .t2_2 d op => Sys2Proof.Machine.execT2_2 d op s
  | .t2_3 d op => Sys2Proof.Machine.execT2_3 d op s
  | .ierQ1 d op => Sys2Proof.Machine.execIerQ1 d op s
  | .ierQ2 d op => Sys2Proof.Machine.execIerQ2 d op s
  | .ierQ3 d op => Sys2Proof.Machine.execIerQ3 d op s
  | .idrQ1 d op => Sys2Proof.Machine.execIdrQ1 d op s
  | .idrQ2 d op => Sys2Proof.Machine.execIdrQ2 d op s
  | .idrQ3 d op => Sys2Proof.Machine.execIdrQ3 d op s
  | .imrQ1 d op => Sys2Proof.Machine.execImrQ1 d op s
  | .imrQ2 d op => Sys2Proof.Machine.execImrQ2 d op s
  | .imrQ3 d op => Sys2Proof.Machine.execImrQ3 d op s
  | .ethtype_0 d op => Sys2Proof.Machine.execEthtype_0 d op s
  | .ethtype_1 d op => Sys2Proof.Machine.execEthtype_1 d op s
  | .ethtype_2 d op => Sys2Proof.Machine.execEthtype_2 d op s
  | .ethtype_3 d op => Sys2Proof.Machine.execEthtype_3 d op s
  | .cmpW0_0 d op => Sys2Proof.Machine.execCmpW0_0 d op s
  | .cmpW1_0 d op => Sys2Proof.Machine.execCmpW1_0 d op s
  | .cmpW0_1 d op => Sys2Proof.Machine.execCmpW0_1 d op s
  | .cmpW1_1 d op => Sys2Proof.Machine.execCmpW1_1 d op s
  | .cmpW0_2 d op => Sys2Proof.Machine.execCmpW0_2 d op s
  | .cmpW1_2 d op => Sys2Proof.Machine.execCmpW1_2 d op s
  | .cmpW0_3 d op => Sys2Proof.Machine.execCmpW0_3 d op s
  | .cmpW1_3 d op => Sys2Proof.Machine.execCmpW1_3 d op s
  | .cmpW0_4 d op => Sys2Proof.Machine.execCmpW0_4 d op s
  | .cmpW1_4 d op => Sys2Proof.Machine.execCmpW1_4 d op s
  | .cmpW0_5 d op => Sys2Proof.Machine.execCmpW0_5 d op s
  | .cmpW1_5 d op => Sys2Proof.Machine.execCmpW1_5 d op s
  | .cmpW0_6 d op => Sys2Proof.Machine.execCmpW0_6 d op s
  | .cmpW1_6 d op => Sys2Proof.Machine.execCmpW1_6 d op s
  | .cmpW0_7 d op => Sys2Proof.Machine.execCmpW0_7 d op s
  | .cmpW1_7 d op => Sys2Proof.Machine.execCmpW1_7 d op s
  | .cmpW0_8 d op => Sys2Proof.Machine.execCmpW0_8 d op s
  | .cmpW1_8 d op => Sys2Proof.Machine.execCmpW1_8 d op s
  | .cmpW0_9 d op => Sys2Proof.Machine.execCmpW0_9 d op s
  | .cmpW1_9 d op => Sys2Proof.Machine.execCmpW1_9 d op s
  | .cmpW0_10 d op => Sys2Proof.Machine.execCmpW0_10 d op s
  | .cmpW1_10 d op => Sys2Proof.Machine.execCmpW1_10 d op s
  | .cmpW0_11 d op => Sys2Proof.Machine.execCmpW0_11 d op s
  | .cmpW1_11 d op => Sys2Proof.Machine.execCmpW1_11 d op s
  | .mmslControl d op => Sys2Proof.Machine.execMmslControl d op s
  | .mmslStatus d op => Sys2Proof.Machine.execMmslStatus d op s
  | .mmslAssErr d op => Sys2Proof.Machine.execMmslAssErr d op s
  | .mmslAssOk d op => Sys2Proof.Machine.execMmslAssOk d op s
  | .mmslFragRx d op => Sys2Proof.Machine.execMmslFragRx d op s
  | .mmslFragTx d op => Sys2Proof.Machine.execMmslFragTx d op s
  | .mmslIntStatus d op => Sys2Proof.Machine.execMmslIntStatus d op s
  | .mmslIntEn d op => Sys2Proof.Machine.execMmslIntEn d op s
  | .mmslIntDis d op => Sys2Proof.Machine.execMmslIntDis d op s
  | .mmslIntMask d op => Sys2Proof.Machine.execMmslIntMask d op s

end Sys2Proof.Machine
end

