-- ==== Sys2Proof/Machine/Frame.lean ====
section
/-! DEFINITION. Frames: the parse of tags, IP and transport headers (43_classifier R400-R402, 30_encoding R150-R153), the
frame check sequence and padding (41_tx_ring R326), and transmit checksum offload (R325). -/

namespace Sys2Proof.Machine

/-! ### Parse -/

/-- The number of VLAN tags recognised in a frame of `m` bytes without its FCS (R400). -/
def vlanTags (depth tpid m : Nat) (f : List Byte) : Nat :=
  if 1 ≤ depth ∧ 18 ≤ m then
    if depth = 2 ∧ be16 f 12 = tpid then
      if 22 ≤ m ∧ be16 f 16 = 0x8100 then 2 else 1
    else if be16 f 12 = 0x8100 then 1
    else 0
  else 0

/-- The network header of a frame: valid IPv4 or valid IPv6 with the place of its layer-4 header, or neither (R402). -/
inductive Net where
  | other
  | ipv4 (l4 : Nat)
  | ipv6 (l4 : Nat)
deriving DecidableEq, Repr

/-- The transport header a frame carries (R402). -/
inductive Transport where
  | none
  | udp
  | tcp
deriving DecidableEq, Repr

/-- What the parser finds in a frame (R400-R402): the length without FCS, the tags, the first tag's TCI, the ethertype
if there is one, the layer-3 start and the network header. -/
structure Parsed where
  len  : Nat
  tags : Nat
  tci  : Nat
  et   : Option Nat
  l3   : Nat
  net  : Net
deriving DecidableEq, Repr

/-- The network header (R402): validity of IPv4 and IPv6. -/
def parseNet (m l3 et : Nat) (f : List Byte) : Net :=
  let version := byteAt f l3 / 16
  let ihl := byteAt f l3 % 16 * 4
  if et = 0x0800 ∧ l3 + 20 ≤ m ∧ version = 4 ∧ 20 ≤ ihl ∧ l3 + ihl ≤ m then .ipv4 (l3 + ihl)
  else if et = 0x86DD ∧ l3 + 40 ≤ m ∧ version = 6 then .ipv6 (l3 + 40)
  else .other

/-- The parse of a frame whose length without FCS is `m`, under a STACKED_VLAN value (R400-R402). -/
def parseFrame (vlan : Word) (m : Nat) (f : List Byte) : Parsed :=
  let tags := vlanTags (vlanDepth vlan) (vlanTpid vlan) m f
  let etOff := 12 + 4 * tags
  if etOff + 2 ≤ m then
    { len := m, tags := tags, tci := be16 f 14, et := some (be16 f etOff), l3 := etOff + 2,
      net := parseNet m (etOff + 2) (be16 f etOff) f }
  else { len := m, tags := tags, tci := be16 f 14, et := none, l3 := etOff + 2, net := .other }

/-- The first tag's priority, CFI bit and VLAN identifier (R400). -/
def Parsed.pcp (p : Parsed) : Nat := p.tci / 2 ^ 13
def Parsed.cfi (p : Parsed) : Nat := p.tci / 2 ^ 12 % 2
def Parsed.vid (p : Parsed) : Nat := p.tci % 2 ^ 12

/-- IPv4 flags and fragment offset (30_encoding R151). -/
def Parsed.fragOffset (p : Parsed) (f : List Byte) : Nat := be16 f (p.l3 + 6) % 2 ^ 13
def Parsed.moreFragments (p : Parsed) (f : List Byte) : Bool := (be16 f (p.l3 + 6)).testBit 13

/-- The protocol (IPv4) or next header (IPv6) (R151, R152). -/
def Parsed.protocol (p : Parsed) (f : List Byte) : Nat :=
  match p.net with
  | .ipv4 _ => byteAt f (p.l3 + 9)
  | .ipv6 _ => byteAt f (p.l3 + 6)
  | .other => 0

/-- The start of layer 4, where the network header is valid (R402). -/
def Parsed.l4 (p : Parsed) : Option Nat :=
  match p.net with
  | .ipv4 l4 => some l4
  | .ipv6 l4 => some l4
  | .other => Option.none

/-- The transport header starting at `l4` inside the frame (R402). -/
def transportAt (proto l4 m : Nat) : Transport :=
  if proto = 17 ∧ l4 + 8 ≤ m then .udp else if proto = 6 ∧ l4 + 20 ≤ m then .tcp else .none

/-- The transport header the frame carries (R402): an IPv4 fragment but the first carries none. -/
def Parsed.transport (p : Parsed) (f : List Byte) : Transport :=
  match p.net with
  | .ipv4 l4 => if p.fragOffset f = 0 then transportAt (p.protocol f) l4 p.len else .none
  | .ipv6 l4 => transportAt (p.protocol f) l4 p.len
  | .other => .none

/-- The start of the transport payload (R402). -/
def Parsed.l5 (p : Parsed) (f : List Byte) : Option Nat :=
  match p.l4, p.transport f with
  | some l4, .udp => some (l4 + 8)
  | some l4, .tcp => some (l4 + 4 * (byteAt f (l4 + 12) / 16))
  | _, _ => Option.none

/-- The DS byte (IPv4) or traffic class (IPv6) (R402). -/
def Parsed.ds (p : Parsed) (f : List Byte) : Option Nat :=
  match p.net with
  | .ipv4 _ => some (byteAt f (p.l3 + 1))
  | .ipv6 _ => some (byteAt f p.l3 % 16 * 16 + byteAt f (p.l3 + 1) / 16)
  | .other => Option.none

/-! ### FCS and padding (41_tx_ring R326) -/

/-- `k` shifts of the reflected CRC register (polynomial 0x04C11DB7, reflected 0xEDB88320). -/
def crcShift (c : Word) : Nat → Word
  | 0 => c
  | k + 1 => crcShift (if c.getLsbD 0 then (c >>> 1) ^^^ 0xEDB88320#32 else c >>> 1) k

/-- The CRC register after a list of bytes. -/
def crcBytes (c : Word) : List Byte → Word
  | [] => c
  | b :: rest => crcBytes (crcShift (c ^^^ b.setWidth 32) 8) rest

/-- The IEEE 802.3 CRC-32: register all ones at first, final complement. -/
def crc32 (f : List Byte) : Word := ~~~(crcBytes 0xFFFFFFFF#32 f)

/-- `FCS32` (R326): least significant byte first. -/
def fcs32 (f : List Byte) : List Byte := wordBytes (crc32 f)

/-- `pad60` (R326). -/
def pad60 (f : List Byte) : List Byte := f ++ List.replicate (60 - f.length) 0

/-- The frame with its FCS. -/
def withFcs (f : List Byte) : List Byte := f ++ fcs32 f

/-! ### Transmit checksum offload (R325) -/

/-- Ones'-complement addition of 16-bit words. -/
def ocAdd (a b : Nat) : Nat := if a + b < 2 ^ 16 then a + b else a + b - (2 ^ 16 - 1)

/-- The ones'-complement sum of a list of bytes taken as big-endian 16-bit words, an odd byte padded with zero. -/
def ocSum : List Byte → Nat
  | [] => 0
  | [a] => a.toNat * 2 ^ 8
  | a :: b :: rest => ocAdd (a.toNat * 2 ^ 8 + b.toNat) (ocSum rest)

/-- The ones' complement of a 16-bit word. -/
def ocNot (a : Nat) : Nat := 2 ^ 16 - 1 - a

/-- The `n` bytes at `i`. -/
def slice (f : List Byte) (i n : Nat) : List Byte := (f.drop i).take n

/-- The end of the IP datagram (R325). -/
def datagramEnd (p : Parsed) (f : List Byte) : Nat :=
  match p.net with
  | .ipv4 _ => p.l3 + be16 f (p.l3 + 2)
  | .ipv6 _ => p.l3 + 40 + be16 f (p.l3 + 4)
  | .other => 0

/-- The transport header does not fit before the datagram's end (R325). -/
def headerCut (proto l4 stop : Nat) (f : List Byte) : Bool :=
  if proto = 17 then decide (stop < l4 + 8)
  else decide (stop < l4 + 20) || decide (byteAt f (l4 + 12) / 16 * 4 < 20)
    || decide (stop < l4 + byteAt f (l4 + 12) / 16 * 4)

/-- The pseudo-header of a segment of `n` bytes (R325). -/
def pseudoHeader (p : Parsed) (proto n : Nat) (f : List Byte) : List Byte :=
  match p.net with
  | .ipv4 _ => slice f (p.l3 + 12) 8 ++ [0] ++ beBytes proto 1 ++ beBytes n 2
  | .ipv6 _ => slice f (p.l3 + 8) 32 ++ beBytes n 4 ++ [0, 0, 0] ++ beBytes proto 1
  | .other => []

/-- The frame with the IPv4 header checksum set; an IPv6 frame as it is (R325). -/
def setIpChecksum (p : Parsed) (f : List Byte) : List Byte :=
  match p.net with
  | .ipv4 l4 =>
    let g := patch f (p.l3 + 10) [0, 0]
    patch g (p.l3 + 10) (beBytes (ocNot (ocSum (slice g p.l3 (l4 - p.l3)))) 2)
  | _ => f

/-- The frame with the TCP or UDP checksum at `ck` set over the segment from `l4` to `stop` (R325). -/
def setL4Checksum (p : Parsed) (proto l4 stop ck : Nat) (f : List Byte) : List Byte :=
  let g := patch f ck [0, 0]
  let sum := ocNot (ocSum (pseudoHeader p proto (stop - l4) g ++ slice g l4 (stop - l4)))
  patch g ck (beBytes (if proto = 17 ∧ sum = 0 then 0xFFFF else sum) 2)

/-- `CSUM` (R325): the frame and the code for CKERR. -/
def checksumOffload (vlan : Word) (f : List Byte) : List Byte × Nat :=
  let p := parseFrame vlan f.length f
  let proto := p.protocol f
  let fragmented :=
    match p.net with
    | .ipv4 _ => p.moreFragments f || decide (p.fragOffset f ≠ 0)
    | _ => false
  match p.l4 with
  | Option.none => (f, 3)
  | some l4 =>
    let stop := datagramEnd p f
    if fragmented then (f, 5)
    else if proto ≠ 6 ∧ proto ≠ 17 then (f, 6)
    else if f.length < stop ∨ headerCut proto l4 stop f then (f, 7)
    else (setL4Checksum p proto l4 stop (if proto = 17 then l4 + 6 else l4 + 16) (setIpChecksum p f), 0)

end Sys2Proof.Machine
end

