-- ==== Sys2Proof/Machine/Classifier.lean ====
section
/-! DEFINITION. The packet classifier (43_classifier): receive checks (R403-R408), address acceptance (R410-R415) and
queue selection (R420-R441). -/

namespace Sys2Proof.Machine

/-! ### Receive checks -/

/-- `MAXRX` (R403). -/
def maxRx (ncfgr jml : Word) (tags : Nat) : Nat :=
  if ncfgrJumbo ncfgr then jmlLength jml else if ncfgrRx1536 ncfgr then 1536 else 1518 + 4 * tags

/-- The length-field error (R406) of a frame of `n` bytes. -/
def lengthFieldError (p : Parsed) (n : Nat) : Bool :=
  match p.et with
  | none => false
  | some lf =>
    let a := p.len - p.l3
    decide (lf < 0x0600) && (decide (a < lf) || (decide (lf < a) && decide (64 < n)))

/-- `fcs_ok` (R407); for a frame too short to hold an FCS a draw (log 16). -/
def fcsOk (runt : Bool) (f : List Byte) : Bool :=
  if f.length < 4 then runt else decide (f.drop (f.length - 4) = fcs32 (f.take (f.length - 4)))

/-- The receive checks (R408): the counters they count, in order, and whether the frame passes. -/
def rxChecks (ncfgr jml : Word) (p : Parsed) (n : Nat) (ok : Bool) : List Stat × Bool :=
  if n < 64 then (if ok then [.undersizeRx] else [], false)
  else if maxRx ncfgr jml p.tags < n then ([if ok then .oversizeRx else .jabbersRx], false)
  else
    let fcs : List Stat := if ok then [] else [.fcsErrorsRx]
    if !ok && !ncfgrIrxfcs ncfgr then (fcs, false)
    else
      let len : List Stat := if lengthFieldError p n then [.lengthErrorsRx] else []
      if lengthFieldError p n && ncfgrLferd ncfgr then (fcs ++ len, false)
      else (fcs ++ len, !(ncfgrDnvlan ncfgr && decide (p.tags = 0)))

/-! ### Address acceptance -/

/-- The six bytes of an address as a 48-bit number, the first byte in bits 7:0 (R410). -/
def addrBits : List Byte → Nat
  | [] => 0
  | b :: rest => b.toNat + 2 ^ 8 * addrBits rest

/-- The exclusive or of the first `k` 6-bit windows of a number (R410). -/
def foldWindows (v : Nat) : Nat → Nat
  | 0 => 0
  | k + 1 => (v % 64) ^^^ foldWindows (v / 64) k

/-- `hash(X)` (R410). -/
def addrHash (x : List Byte) : Nat := foldWindows (addrBits (x.take 6)) 8

/-- Bit `i` of `HASH = {HRT, HRB}` (10_state R43). -/
def hashBit (hrb hrt : Word) (i : Nat) : Bool := (hrt ++ hrb).getLsbD i

/-- `hash_hit` (R411). -/
def hashHit (x : Device) (f : List Byte) : Bool :=
  hashBit x.hrb x.hrt (addrHash f) && (if isGroup f then ncfgrMhen x.ncfgr else ncfgrUhen x.ncfgr)

/-- The filter address as six bytes (10_state R44). -/
def filterAddr (sab sat : Word) : List Byte :=
  [sab.extractLsb' 0 8, sab.extractLsb' 8 8, sab.extractLsb' 16 8, sab.extractLsb' 24 8,
   sat.extractLsb' 0 8, sat.extractLsb' 8 8]

/-- The bytes whose BMASK bit is 0 agree; `mask` holds the mask bits from the first byte on. -/
def bytesMatch (mask : Nat) : List Byte → List Byte → Bool
  | [], _ => true
  | _ :: _, [] => false
  | a :: as, b :: bs => (decide (mask % 2 = 1) || decide (a = b)) && bytesMatch (mask / 2) as bs

/-- Specific-address filter `k + 1` matches the frame (R413). Filter 1 has no SRC and no BMASK. -/
def saMatch (x : Device) (f : List Byte) (k : Fin 4) : Bool :=
  let a := filterAddr x.sab[k] x.sat[k]
  let src := decide (k ≠ 0) && x.sat[k].getLsbD 16
  let mask := if k = 0 then 0 else field x.sat[k] 24 6
  decide (a ≠ List.replicate 6 0) && bytesMatch mask a (if src then slice f 6 6 else slice f 0 6)

/-- The number less 1 of the lowest specific-address filter that matches (R412). -/
def saHit (x : Device) (f : List Byte) : Option (Fin 4) :=
  if saMatch x f 0 then some 0
  else if saMatch x f 1 then some 1
  else if saMatch x f 2 then some 2
  else if saMatch x f 3 then some 3
  else none

/-- The frame is accepted (R412). -/
def accepted (x : Device) (f : List Byte) : Bool :=
  ncfgrCaf x.ncfgr || (saHit x f).isSome || hashHit x f || (isBroadcast f && !ncfgrNbc x.ncfgr)

/-- Type-ID register `k + 1` matches (R414). -/
def tidmMatch (x : Device) (p : Parsed) (k : Fin 4) : Bool :=
  x.tidm[k].getLsbD 31 && decide (p.et = some (field x.tidm[k] 0 16))

/-- The number less 1 of the lowest type-ID register that matches (R414). -/
def tidmHit (x : Device) (p : Parsed) : Option (Fin 4) :=
  if tidmMatch x p 0 then some 0
  else if tidmMatch x p 1 then some 1
  else if tidmMatch x p 2 then some 2
  else if tidmMatch x p 3 then some 3
  else none

/-! ### Queue selection -/

/-- What a matching screener does with a frame: drop it, or route it to the queue its QUEUE field names. -/
inductive Verdict where
  | drop
  | route (queue : Nat)
deriving DecidableEq, Repr

/-- Type-1 filter `w` is active (R430). -/
def t1Active (w : Word) : Bool := w.getLsbD 28 || w.getLsbD 29

/-- Type-1 filter `w` matches (R430). -/
def t1Match (w : Word) (p : Parsed) (f : List Byte) : Bool :=
  (!w.getLsbD 29 || (decide (p.transport f = .udp)
      && (match p.l4 with
        | some l4 => decide (be16 f (l4 + 2) = field w 12 16)
        | none => false)))
    && (!w.getLsbD 28 || decide (p.ds f = some (field w 4 8)))

/-- The action of a Type-1 filter (R430). -/
def t1Verdict (w : Word) : Verdict := if w.getLsbD 30 then .drop else .route (field w 0 4)

/-- The compare test of the registers `w0`, `w1` (R432). -/
def compareTest (w0 w1 : Word) (p : Parsed) (f : List Byte) : Bool :=
  let base : Option Nat :=
    match field w1 7 2 with
    | 0 => some 0
    | 1 => if p.et.isSome then some p.l3 else none
    | 2 => p.l4
    | _ => p.l5 f
  match base with
  | none => false
  | some b =>
    let i := b + field w1 0 7
    if w1.getLsbD 9 then decide (i + 4 ≤ p.len) && decide (be32 f i = w0.toNat)
    else decide (i + 2 ≤ p.len) && decide (be16 f i &&& field w0 0 16 = field w0 16 16 &&& field w0 0 16)

/-- Compare test `i` of a device with `n` compare registers; a draw where register `i` does not exist (R431). -/
def cmpTest (x : Device) (n i : Nat) (draw : Bool) (p : Parsed) (f : List Byte) : Bool :=
  if i < n then compareTest (x.cmpW0[i]?.getD 0) (x.cmpW1[i]?.getD 0) p f else draw

/-- Type-2 filter `w` is active (R433). -/
def t2Active (w : Word) : Bool :=
  w.getLsbD 12 || w.getLsbD 8 || w.getLsbD 18 || w.getLsbD 24 || w.getLsbD 30

/-- Type-2 filter `w`, the `k`-th, matches (R433); `tests` holds the draws of R431, four for each filter. -/
def t2Match (x : Device) (nEth nCmp : Nat) (tests : List Bool) (k : Nat) (w : Word) (p : Parsed) (f : List Byte) :
    Bool :=
  let draw (j : Nat) : Bool := tests.getD (4 * k + j) false
  (!w.getLsbD 12 ||
      (if field w 9 3 < nEth then decide (p.et = some (field (x.ethtype[field w 9 3]?.getD 0) 0 16)) else draw 0))
    && (!w.getLsbD 8 || (decide (1 ≤ p.tags) && decide (p.pcp = field w 4 3)))
    && (!w.getLsbD 18 || cmpTest x nCmp (field w 13 5) (draw 1) p f)
    && (!w.getLsbD 24 || cmpTest x nCmp (field w 19 5) (draw 2) p f)
    && (!w.getLsbD 30 || cmpTest x nCmp (field w 25 5) (draw 3) p f)

/-- The action of a Type-2 filter (R433). -/
def t2Verdict (w : Word) : Verdict := if w.getLsbD 31 then .drop else .route (field w 0 4)

/-- The verdict of the first filter from number `k` on that is active and matches. -/
def firstVerdict (hit : Nat → Word → Bool) (act : Word → Verdict) (k : Nat) : List Word → Option Verdict
  | [] => none
  | w :: rest => if hit k w then some (act w) else firstVerdict hit act (k + 1) rest

/-- The verdict of the screeners (R440): Type-1 before Type-2, lowest number first; queue 0 where none matches. -/
def screen (c : Params) (x : Device) (tests : List Bool) (p : Parsed) (f : List Byte) : Verdict :=
  match firstVerdict (fun _ w => t1Active w && t1Match w p f) t1Verdict 0 (x.t1.toList.take c.nT1) with
  | some v => v
  | none =>
    match firstVerdict (fun k w => t2Active w && t2Match x c.nEth c.nCmp tests k w p f) t2Verdict 0
        (x.t2.toList.take c.nT2) with
    | some v => v
    | none => .route 0

/-- `route(v)` and drop (R440, R420): the target queue, or none for a dropped frame; `draw` decides for a QUEUE field
that names no queue. -/
def targetQueue (n : Nat) (draw : Option Nat) : Verdict → Option (Fin 4)
  | .drop => none
  | .route v => if v < n then some (Fin.ofNat 4 v) else draw.map (Fin.ofNat 4)

end Sys2Proof.Machine
end

