-- ==== Sys2Proof/Machine/Ptp.lean ====
section
/-! DEFINITION. PTP: recognition of PTP frames (44_tsu R470-R475), timestamp capture (R477-R481), the event registers and
interrupts (R482) and one-step sync (R490-R493). -/

namespace Sys2Proof.Machine

/-- How a PTP message is carried (R471-R473). -/
inductive PtpVia where
  | ethernet
  | ipv4 (l4 : Nat)
  | ipv6
deriving DecidableEq, Repr

/-- A recognised PTP message: its start, its type and its carrier (R470, R474). -/
structure PtpMsg where
  start : Nat
  kind  : Nat
  via   : PtpVia
deriving DecidableEq, Repr

/-- A PTP event message (R474). -/
def PtpMsg.isEvent (g : PtpMsg) : Bool := decide (g.kind < 4)

/-- The recognisers R471, R472 and R473 in order; `unicast` is the direction's PTP unicast address where NCR.PTP_UC_EN
is 1 (R475). -/
def ptpCarrier (p : Parsed) (f : List Byte) (unicast : Option Word) : Option (Nat × PtpVia) :=
  if p.et = some 0x88F7 then some (p.l3, .ethernet)
  else if p.transport f = .udp then
    match p.net with
    | .ipv4 l4 =>
      let port := be16 f (l4 + 2)
      let dst := be32 f (p.l3 + 16)
      let uni := match unicast with
        | some u => decide (dst = u.toNat)
        | none => false
      if (port = 319 ∨ port = 320) ∧ (dst = 0xE0000181 ∨ dst = 0xE000006B ∨ uni = true) then some (l4 + 8, .ipv4 l4)
      else none
    | .ipv6 l4 =>
      let port := be16 f (l4 + 2)
      let dst := beField f (p.l3 + 24) 16
      -- FF0x::181 for any scope nibble x, or FF02::6B
      let any181 := decide (dst / 2 ^ 116 = 0xFF0 ∧ dst % 2 ^ 112 = 0x181)
      let peer := decide (dst = 0xFF02 * 2 ^ 112 + 0x6B)
      if (port = 319 ∨ port = 320) ∧ (any181 || peer) then some (l4 + 8, .ipv6) else none
    | .other => none
  else none

/-- The PTP message of a frame, if it is one (R470, R474). -/
def ptpMessage (p : Parsed) (f : List Byte) (unicast : Option Word) : Option PtpMsg :=
  match ptpCarrier p f unicast with
  | some (start, via) => if start + 1 ≤ p.len then some ⟨start, byteAt f start % 16, via⟩ else none
  | none => none

/-- The PTP message type, where the message is an event message. -/
def eventKind (g : Option PtpMsg) : Option Nat :=
  match g with
  | some e => if e.isEvent then some e.kind else none
  | none => none

/-! ### Capture (R477) -/

/-- The capture decision of a direction whose capture mode is `mode` (R477). -/
def captureDecision (mode : Nat) (g : Option PtpMsg) : Bool :=
  mode = 3 || (mode = 2 && g.isSome) || (mode = 1 && (eventKind g).isSome)

/-- `capture(dir, G)` (R477, R480): the TSU value, where the decision is to capture and the direction's extended
descriptors are on. -/
def captureStamp (t : Tsu) (extended : Bool) (mode : Nat) (g : Option PtpMsg) : Option (BitVec 64 × BitVec 30) :=
  if extended && captureDecision mode g then some (t.sec, t.ns) else none

/-! ### Event registers (R482) -/

/-- The event registers and the interrupt of an event message of a kind received at the TSU value. -/
def Device.ptpRxEvent (x : Device) (kind : Nat) : Device :=
  let lo := x.tsu.sec.extractLsb' 0 32
  let ns := x.tsu.ns.setWidth 32
  let sync := { x with ptp := { x.ptp with rxSec := lo, rxNsec := ns } }
  let peer := { x with ptp := { x.ptp with peerRxSec := lo, peerRxNsec := ns } }
  match kind with
  | 0 => sync.irqDevice isrPtpSfr
  | 1 => sync.irqDevice isrPtpDrqfr
  | 2 => peer.irqDevice isrPtpPdrqfr
  | 3 => peer.irqDevice isrPtpPdrsfr
  | _ => x

/-- The event registers and the interrupt of an event message of a kind transmitted at the TSU value. -/
def Device.ptpTxEvent (x : Device) (kind : Nat) : Device :=
  let lo := x.tsu.sec.extractLsb' 0 32
  let ns := x.tsu.ns.setWidth 32
  let sync := { x with ptp := { x.ptp with txSec := lo, txNsec := ns } }
  let peer := { x with ptp := { x.ptp with peerTxSec := lo, peerTxNsec := ns } }
  match kind with
  | 0 => sync.irqDevice isrPtpSft
  | 1 => sync.irqDevice isrPtpDrqft
  | 2 => peer.irqDevice isrPtpPdrqft
  | 3 => peer.irqDevice isrPtpPdrsft
  | _ => x

/-! ### One-step sync (R490-R493) -/

/-- The frame with its originTimestamp overwritten (R491); none where it does not fit. -/
def ossReplace (t : Tsu) (start : Nat) (f : List Byte) : Option (List Byte) :=
  if start + 44 ≤ f.length then
    some (patch f (start + 34) (beBytes (t.sec.toNat % 2 ^ 48) 6 ++ beBytes t.ns.toNat 4))
  else none

/-- The frame with `OSS_ADJUST_DELTA` added to its correctionField (R492); none where it does not fit. -/
def ossAdjust (t : Tsu) (start : Nat) (f : List Byte) : Option (List Byte) :=
  if start + 16 ≤ f.length then
    let c := BitVec.ofNat 64 (beField f (start + 8) 8) + Config.ossAdjustDelta t.sec t.ns f
    some (patch f (start + 8) (beBytes c.toNat 8))
  else none

/-- The UDP checksum cleared after a change, over IPv4 only (R493). -/
def ossChecksum (via : PtpVia) (f : List Byte) : List Byte :=
  match via with
  | .ipv4 l4 => patch f (l4 + 6) [0, 0]
  | _ => f

/-- `OSS(G, nocrc)` (R490; log 21) under an NCR value. -/
def oneStepSync (ncr : Word) (t : Tsu) (g : Option PtpMsg) (nocrc : Bool) (f : List Byte) : List Byte :=
  match g with
  | none => f
  | some e =>
    if !ncrOssEn ncr || nocrc || e.kind ≠ 0 then f
    else
      match (if ncrOssCorr ncr then ossAdjust t e.start f else ossReplace t e.start f) with
      | some f' => ossChecksum e.via f'
      | none => f

end Sys2Proof.Machine
end

