-- ==== Sys2Proof/Machine/RxEngine.lean ====
section
/-! DEFINITION. The receive engine: the agent step `RX_FRAME` (42_rx_ring R355-R374). -/

namespace Sys2Proof.Machine

/-! ### The data step (R360) -/

/-- How the data step ends: the frame written into its descriptors `(address, w0 as read)`, with memory, the number of
DMA accesses made and the pointer after the frame; a resource error (R358) or a bus error (R372), with memory as far as
it was written; or a fault. -/
inductive RxFill where
  | filled (m : Memory) (n : Nat) (descs : List (Word × Word)) (cur : Word)
  | resource (m : Memory)
  | busErr (m : Memory)
  | fault (r : Fault)
deriving DecidableEq, Repr

/-- The ring of a queue as the data step uses it. -/
structure RxRing where
  base   : Word
  first  : Word
  bytes  : Nat
  stride : Nat
  offset : Nat
deriving DecidableEq, Repr

/-- The loop of R360 at descriptor `a`, with the bytes `rest` still to be written; `fuel` is more than their number. -/
def rxFill (o : Oracle) (g : RxRing) : Nat → Memory → Nat → Word → List (Word × Word) → List Byte → RxFill
  | 0, m, _, _, _, _ => .resource m
  | fuel + 1, m, n, a, descs, rest =>
    match dmaRead32 o m n a with
    | none => .busErr m
    | some w0 =>
      if rxOwn w0 || (!descs.isEmpty && decide (a = g.first)) then .resource m
      else
        let off := if descs.isEmpty then g.offset else 0
        let c := min (g.bytes - off) rest.length
        let dst := (rxAddr w0).toNat + off
        if 2 ^ 32 ≤ dst + c then .fault .addressOverflow
        else
          let r := dmaWriteBytes o m (n + 1) dst (rest.take c)
          if r.2 then
            match nextDesc g.base (rxWrap w0) g.stride a with
            | none => .fault .addressOverflow
            | some a' =>
              if rest.length = c then .filled r.1 (n + 1 + c) (descs ++ [(a, w0)]) a'
              else rxFill o g fuel r.1 (n + 1 + c) a' (descs ++ [(a, w0)]) (rest.drop c)
          else .busErr r.1

/-! ### Write-back (R364-R366) -/

/-- `w1_eof` (R364) of a frame stored in `len` bytes over `k` descriptors. -/
def rxEofWord (x : Device) (p : Parsed) (f : List Byte) (badfcs : Bool) (len k : Nat) : Word :=
  let l : Word := BitVec.ofNat 32 len
  let tagged := decide (1 ≤ p.tags)
  let tidm := tidmHit x p
  let sa := saHit x f
  (l &&& 0x1FFF#32)
    ||| bitAt 13 (if ncfgrJumbo x.ncfgr then l.getLsbD 13 else badfcs)
    ||| bitAt 14 (decide (k = 1))
    ||| bitAt 15 true
    ||| bitAt 16 (tagged && decide (p.cfi = 1))
    ||| (if tagged then BitVec.ofNat 32 p.pcp <<< 17 else 0)
    ||| bitAt 20 (tagged && decide (p.vid = 0))
    ||| bitAt 21 tagged
    ||| BitVec.ofNat 32 (match tidm with | some i => i.val | none => 0) <<< 22
    ||| bitAt 24 tidm.isSome
    ||| BitVec.ofNat 32 (match sa with | some i => i.val | none => 0) <<< 25
    ||| bitAt 27 sa.isSome
    ||| bitAt 29 (hashHit x f && !isGroup f)
    ||| bitAt 30 (hashHit x f && isGroup f)
    ||| bitAt 31 (isBroadcast f)

/-- The status word writes of every descriptor but the last (R366): SOF only in the first. -/
def rxMiddleWrites (first : Bool) : List (Word × Word) → List (Word × Word)
  | [] => []
  | d :: rest => (d.1 + 4, bitAt 14 first) :: rxMiddleWrites false rest

/-- Word w0 of a returned descriptor (R366): ADDR and WRAP as read, OWN set, TSP as given. -/
def rxReturned (w0 : Word) (tsp : Bool) : Word := (w0 &&& 0xFFFFFFFB#32) ||| bitAt 2 tsp ||| 1#32

/-- The writes of R366 before any ownership write: status words, and the timestamp of the EOF descriptor. -/
def rxStatusWrites (before : List (Word × Word)) (eof : Word) (w1 : Word) (ts : Option (BitVec 64 × BitVec 30)) :
    List (Word × Word) :=
  rxMiddleWrites true before
    ++ (match ts with
      | some (sec, ns) => [(eof + 8, tsLo sec ns), (eof + 12, tsHi sec)]
      | none => [])
    ++ [(eof + 4, w1)]

/-- The ownership writes of R366, the EOF descriptor's last. -/
def rxOwnWrites (before : List (Word × Word)) (eof w0 : Word) (tsp : Bool) : List (Word × Word) :=
  before.map (fun d => (d.1, rxReturned d.2 false)) ++ [(eof, rxReturned w0 tsp)]

/-! ### Ends of the step -/

/-- A resource error on queue `t` (R358). -/
def Device.rxResourceError (x : Device) (t : Fin 4) : Device :=
  ((x.setRsr rsrBna).irq t isrRxUbr).count .resourceErrorsRx

/-- A bus error on queue `t` (R372). -/
def Device.rxBusError (x : Device) (t : Fin 4) : Device := (x.setRsr rsrHno).irq t isrHresp

/-- A receive overrun (R371). -/
def Device.rxOverrun (x : Device) : Device := ((x.setRsr rsrRxOvr).irqDevice isrRovr).count .overrunsRx

/-- The statistics of a stored frame (R367). -/
def Device.rxStatistics (x : Device) (f : List Byte) : Device :=
  Device.countAll { x with octRx := bump x.octRx f.length }
    (.framesRx :: destStats .bcastRx .mcastRx f ++ [rxSizeStat f.length])

/-- A frame whose write-back is complete (R366, R367). -/
def Device.rxDone (x : Device) (t : Fin 4) (f : List Byte) : Device :=
  ((x.setRsr rsrRec).irq t isrRcomp).rxStatistics f

/-- The RX pointer of a queue moved. -/
def Device.setRxCur (x : Device) (t : Fin 4) (a : Word) : Device := x.modQueue t fun y => { y with rxCur := a }

/-- The state with memory and device `d` replaced. -/
def State.withDma (s : State) (d : Dev) (m : Memory) (x : Device) : State := { s.setDev d x with mem := m }

/-- The stored bytes (R359). -/
def rxStored (ncfgr : Word) (f : List Byte) : List Byte := if ncfgrRfcs ncfgr then f.take (f.length - 4) else f

/-- Store a frame in queue `t`'s ring (R359-R367). `x` is the device with the frame's checks counted. DESIGN CHOICE
(log 31): a timestamp is AddressOverflow where the address of its last word, `eof + 12`, reaches 2^32 (20_memory R108), and
one that ends at the last byte of memory, of a descriptor at 0xFFFFFFF0, is stored. -/
def rxStore (d : Dev) (t : Fin 4) (p : Parsed) (g : Option PtpMsg) (badfcs : Bool) (errs : List Nat) (f : List Byte)
    (x : Device) (s : State) : Result :=
  let o : Oracle := ⟨errs, s.cfg.holes⟩
  let y := x.queue t
  let bytes := rxStored x.ncfgr f
  let ring : RxRing :=
    ⟨y.rxBase, y.rxCur, rxBufBytes x t, stride (dmacfgRxext x.dmacfg), ncfgrRbof x.ncfgr⟩
  if ring.bytes = 0 then .fault .rxBufferSizeZero
  else
    match rxFill o ring (bytes.length + 1) s.mem 0 y.rxCur [] bytes with
    | .fault r => .fault r
    | .resource m => .next (s.withDma d m (x.rxResourceError t))
    | .busErr m => .next (s.withDma d m (x.rxBusError t))
    | .filled m n descs cur =>
      let before := descs.dropLast
      let eof := (descs.getLast?.getD (0, 0))
      let ts := captureStamp x.tsu (dmacfgRxext x.dmacfg) (tsMode x.rxBdControl) g
      let w1 := rxEofWord x p f badfcs bytes.length descs.length
      let status := rxStatusWrites before eof.1 w1 ts
      let own := rxOwnWrites before eof.1 eof.2 ts.isSome
      if ts.isSome && decide (2 ^ 32 ≤ eof.1.toNat + 12) then
        -- R366 writes the status words of the other descriptors before it (log 31)
        let first := rxMiddleWrites true before
        let r := dmaWriteWords o m n first
        if r.2 = first.length then .fault .addressOverflow else .next (s.withDma d r.1 (x.rxBusError t))
      else
        let r := dmaWriteWords o m n (status ++ own)
        if r.2 = (status ++ own).length then .next (s.withDma d r.1 ((x.setRxCur t cur).rxDone t f))
        else if r.2 ≤ status.length then .next (s.withDma d r.1 (x.rxBusError t))
        else .next (s.withDma d r.1 ((x.setRxCur t cur).rxBusError t))

/-- The receive path of a device from its enable check on (R355). -/
def rxDevice (d : Dev) (f : List Byte) (dr : RxDraws) (s : State) : Result :=
  let x := s.dev d
  if !ncrRe x.ncr then .next s
  else if dr.overrun then .next (s.setDev d x.rxOverrun)
  else
    let p := parseFrame x.stackedVlan (f.length - 4) f
    let ok := fcsOk dr.runtFcs f
    let checks := rxChecks x.ncfgr x.jml p f.length ok
    let x1 := x.countAll checks.1
    if !checks.2 then .next (s.setDev d x1)
    else
      let g := ptpMessage p f (if ncrPtpUcEn x.ncr then some x.rxPtpUnicast else none)
      let x2 := match eventKind g with
        | some k => x1.ptpRxEvent k
        | none => x1
      if !accepted x f then .next (s.setDev d x2)
      else
        match targetQueue (s.cfg.nQueues d) dr.route (screen s.cfg x dr.tests p f) with
        | none => .next (s.setDev d x2)
        | some t =>
          if decide (t ≠ 0) && (x.queue t).rxQdis then .next (s.setDev d (x2.rxResourceError t))
          else rxStore d t p g (!ok) dr.errs f x2 s

/-- The draws lie in their sets: a route names a queue of the device (R420). -/
def rxDrawsInSet (dr : RxDraws) (n : Nat) : Bool :=
  match dr.route with
  | some t => decide (t < n)
  | none => true

/-- `rx_device(m, cls)` (45_mmsl R540). -/
def rxTarget (s : State) (m : Mac) (cls : Cls) : Dev :=
  if cls = .express ∧ mmRxEmac (s.mmsl m).control then emacOf m else pmacOf m

/-- The line may offer this frame (R355): it has a byte, a preemptable frame needs PEN, an express frame comes whole. -/
def arrivalOffered (a : Arrival) (y : Mmsl) : Bool :=
  !a.frame.isEmpty && decide (1 ≤ a.frags)
    && (match a.cls with
      | .express => decide (a.frags = 1) && !a.aerr
      | .preemptable => mmPen y.control)

/-- `RX_FRAME(m, f, cls, k, aerr)` (R355). A frame the line may not offer, or whose device is in local loopback, is no
step (41_tx_ring R333; log 3). -/
def runRxFrame (m : Mac) (a : Arrival) (dr : RxDraws) (s : State) : Result :=
  let d := rxTarget s m a.cls
  if !arrivalOffered a (s.mmsl m) || ncrLbLocal (s.dev d).ncr || !rxDrawsInSet dr (s.cfg.nQueues d) then .next s
  else
    let s1 := if a.cls = .preemptable then modMmsl s m fun y => y.countRx a.frags a.aerr else s
    if a.aerr then .next s1 else rxDevice d a.frame dr s1

end Sys2Proof.Machine
end

