-- ==== Sys2Proof/Machine/TxEngine.lean ====
section
/-! DEFINITION. The transmit engine: the agent steps `TX_FETCH` and `TX_DONE` (41_tx_ring). -/

namespace Sys2Proof.Machine

/-! ### Fetch (R310-R316) -/

/-- How a fetch ends: the frame's descriptors, bytes, abort marks and the pointer after it; a software-owned descriptor
at the frame's start (R312); a bus error on a descriptor (R324 (a)); or a fault. -/
inductive TxFetched where
  | frame (descs : List (Word × Word)) (data : List Byte) (und buserr : Bool) (cur : Word)
  | used
  | descErr
  | fault (r : Fault)
deriving DecidableEq, Repr

/-- The loop of R310 at descriptor `a`, whose w1 is `w1`. `fuel` bounds the walk (log 14). -/
def txWalk (o : Oracle) (m : Memory) (base first : Word) (step : Nat) :
    Nat → Nat → Word → Word → List (Word × Word) → List Byte → Bool → TxFetched
  | 0, _, _, _, _, _, _ => .fault .txNoLastBuffer
  | fuel + 1, n, a, w1, descs, data, buserr =>
    match dmaRead32 o m n a with
    | none => .descErr
    | some w0 =>
      let len := txLen w1
      if !buserr && decide (2 ^ 32 ≤ w0.toNat + len) then .fault .addressOverflow
      else
        let got := if buserr then none else dmaReadBytes o m (n + 1) w0.toNat len
        let n' := if buserr then n + 1 else n + 1 + len
        let descs' := descs ++ [(a, w1)]
        let data' := data ++ got.getD []
        match nextDesc base (txWrap w1) step a with
        | none => .fault .addressOverflow
        | some a' =>
          if txLast w1 then .frame descs' data' false got.isNone a'
          else if a' = first then .fault .txNoLastBuffer
          else
            match dmaRead32 o m n' (a' + 4) with
            | none => .descErr
            | some w1' =>
              if txUsed w1' then .frame descs' data' true got.isNone a'
              else txWalk o m base first step fuel (n' + 1) a' w1' descs' data' got.isNone

/-- The longest walk that can still end by a rule of R310: one descriptor for every 8 bytes of memory (log 14). -/
def txWalkFuel : Nat := 2 ^ 29

/-- The fetch of one frame at `cur` (R310). -/
def txFetchFrame (o : Oracle) (m : Memory) (base cur : Word) (step : Nat) : TxFetched :=
  match dmaRead32 o m 0 (cur + 4) with
  | none => .descErr
  | some w1 => if txUsed w1 then .used else txWalk o m base cur step txWalkFuel 1 cur w1 [] [] false

/-- The length on the wire (R313). -/
def txWireLength (nocrc : Bool) (n : Nat) : Nat := if nocrc then n else max n 60 + 4

/-- `MAXTX` (R313). -/
def maxTx (ncfgr jml : Word) : Nat := if ncfgrJumbo ncfgr then jmlLength jml else 1536

/-- The configuration words a frame is sent under (log 17). -/
def Device.txConf (x : Device) : TxConf :=
  ⟨x.ncr, x.ncfgr, x.dmacfg, x.stackedVlan, x.txPtpUnicast, x.txBdControl⟩

/-- `TX_FETCH(q)` may be taken (R310). -/
def txFetchEnabled (c : Params) (d : Dev) (q : Fin 4) (x : Device) : Bool :=
  decide (q.val < c.nQueues d) && ncrTe x.ncr && (x.queue q).txActive && x.idleInflight

/-- The device after the fetch of queue `q` met a software-owned descriptor (R312). -/
def Device.txUsed (x : Device) (q : Fin 4) : Device :=
  ((x.setTsr tsrUbr).irq q isrTxUbr).modQueue q fun y => { y with txActive := false }

/-- The device after a bus error on a descriptor of queue `q` (R324 (a), (c)). -/
def Device.txDescError (x : Device) (q : Fin 4) : Device :=
  ((x.setTsr tsrHresp).irq q isrHresp).modQueue q fun y => { y with txActive := false }

/-- `TX_FETCH(q)` (R310); not enabled, it is passed over (log 3). -/
def runTxFetch (d : Dev) (q : Fin 4) (errs : List Nat) (s : State) : Result :=
  let x := s.dev d
  let y := x.queue q
  if !txFetchEnabled s.cfg d q x then .next s
  else
    match txFetchFrame ⟨errs, s.cfg.holes⟩ s.mem y.txBase y.txCur (stride (dmacfgTxext x.dmacfg)) with
    | .fault r => .fault r
    | .used => .next (s.setDev d (x.txUsed q))
    | .descErr => .next (s.setDev d (x.txDescError q))
    | .frame descs data und buserr cur =>
      let nocrc := match descs with
        | [] => false
        | h :: _ => txNoCrc h.2
      if !und && !buserr && data.isEmpty then .fault .txZeroLength
      else if !und && !buserr && decide (maxTx x.ncfgr x.jml < txWireLength nocrc data.length) then
        .fault .txFrameTooLong
      else
        .next (s.setDev d (x.modQueue q fun z =>
          { z with txCur := cur, inflight := some ⟨descs, data, nocrc, und, buserr, x.txConf⟩ }))

/-! ### Outcome (R322) -/

/-- The outcome a frame in flight ends with (R320). -/
def txOutcome (fr : TxFrame) (draw : TxOutcome) : TxOutcome :=
  if fr.und then .und else if fr.buserr then .busErr else draw

/-- The drawn outcome lies in `Outcomes(d)` (R322), or `OK(0)` or `UND` in local loopback (R333). -/
def txOutcomeInSet (ncfgr ncr : Word) : TxOutcome → Bool
  | .ok c => if ncfgrFd ncfgr || ncrLbLocal ncr then decide (c = 0) else decide (c ≤ 15)
  | .und => true
  | .lco => !ncfgrFd ncfgr && !ncrLbLocal ncr
  | .rle => !ncfgrFd ncfgr && !ncrLbLocal ncr
  | .busErr => false

/-- The transmit status bits of an outcome (R322). -/
def outcomeTsr : TxOutcome → Word
  | .ok c => if 1 ≤ c then tsrCol else 0
  | .und => tsrUnd
  | .lco => tsrLco ||| tsrCol
  | .rle => tsrRle ||| tsrCol
  | .busErr => tsrTfc

/-- The interrupt bits of an outcome (R322). -/
def outcomeIsr : TxOutcome → Word
  | .ok _ => 0
  | .und => isrTund
  | .lco => isrRlex
  | .rle => isrRlex
  | .busErr => isrTfc

/-- An outcome is a transmission (R323). -/
def outcomeIsOk : TxOutcome → Bool
  | .ok _ => true
  | _ => false

/-! ### The frame as it leaves (R320, R325, R326) -/

/-- A frame as it leaves: its bytes, the checksum code and the PTP message found before one-step sync (log 23). -/
structure TxImage where
  frame : List Byte
  ck    : Nat
  ptp   : Option PtpMsg
deriving DecidableEq, Repr

/-- The frame as it leaves device `x` (R320), under the configuration of its fetch (log 17) and at the TSU value of this
step (R321). -/
def txImage (x : Device) (fr : TxFrame) : TxImage :=
  let c := if fr.nocrc || !dmacfgTxcoen fr.conf.dmacfg then (fr.data, 0) else checksumOffload fr.conf.stackedVlan fr.data
  let p := parseFrame fr.conf.stackedVlan c.1.length c.1
  let g := ptpMessage p c.1 (if ncrPtpUcEn fr.conf.ncr then some fr.conf.txPtpUnicast else none)
  let b := oneStepSync fr.conf.ncr x.tsu g fr.nocrc c.1
  ⟨if fr.nocrc then b else withFcs (pad60 b), c.2, g⟩

/-! ### Write-back (R330) -/

/-- The word w1 written to a frame's first descriptor (R330). -/
def txFirstWord (w1 : Word) (ck : Nat) (tsp : Bool) (o : TxOutcome) : Word :=
  (w1 &&& 0x400FFFFF#32) ||| BitVec.ofNat 32 ck <<< 20 ||| bitAt 23 tsp
    ||| bitAt 26 (decide (o = .lco)) ||| bitAt 27 (decide (o = .busErr))
    ||| bitAt 28 (decide (o = .und)) ||| bitAt 29 (decide (o = .rle)) ||| 0x80000000#32

/-- The writes of R330 in order, the first descriptor's w1 last. -/
def txWriteBack (descs : List (Word × Word)) (o : TxOutcome) (ck : Nat) (ts : Option (BitVec 64 × BitVec 30)) :
    List (Word × Word) :=
  match descs with
  | [] => []
  | h :: rest =>
    (match ts with
      | some (sec, ns) => [(h.1 + 8, tsLo sec ns), (h.1 + 12, tsHi sec)]
      | none => [])
      ++ rest.map (fun w => (w.1 + 4, w.2 ||| 0x80000000#32))
      ++ [(h.1 + 4, txFirstWord h.2 ck ts.isSome o)]

/-- The timestamp words of the first descriptor, at `a + 8` and `a + 12`, pass the end of memory (20_memory R108). DESIGN
CHOICE (log 31): the address of the last word is what reaches 2^32; a timestamp that ends at the last byte of memory, of a
descriptor at 0xFFFFFFF0, is stored. -/
def txStampOverflow (descs : List (Word × Word)) (ts : Option (BitVec 64 × BitVec 30)) : Bool :=
  match descs with
  | [] => false
  | h :: _ => ts.isSome && decide (2 ^ 32 ≤ h.1.toNat + 12)

/-! ### Statistics and halt (R331, R332) -/

/-- The counters of a transmitted frame (R331). -/
def txOkStats (c : Nat) (f : List Byte) : List Stat :=
  .framesTx :: destStats .bcastTx .mcastTx f ++ [txSizeStat f.length]
    ++ (if c = 1 then [.singleCollisions] else if 2 ≤ c then [.multipleCollisions] else [])

/-- The statistics of a completed frame (R331). -/
def Device.txStatistics (x : Device) (o : TxOutcome) (f : List Byte) : Device :=
  match o with
  | .ok c => Device.countAll { x with octTx := bump x.octTx f.length } (txOkStats c f)
  | .und => x.count .txUnderruns
  | .lco => x.count .lateCollisions
  | .rle => x.count .excessiveCollisions
  | .busErr => x

/-- The halt check (R332). -/
def Device.txHaltCheck (x : Device) : Device :=
  if x.haltReq then { x.mapQueues (fun y => { y with txActive := false }) with haltReq := false } else x

/-! ### `TX_DONE` (R320) -/

/-- The class a frame of device `d` is sent with (45_mmsl R537). -/
def txClass (s : State) (d : Dev) : Cls :=
  if d.hasMmsl && (s.mmsl (macOf d)).pactive then .preemptable else .express

/-- The draws of a `TX_DONE` lie in their sets: the outcome where it is drawn (R322), the fragments of a preemptable
frame (45_mmsl R538; log 22), and those of the receive path. -/
def txDrawsInSet (dr : TxDraws) (s : State) (d : Dev) (fr : TxFrame) (wire : Nat) : Bool :=
  (fr.und || fr.buserr || txOutcomeInSet fr.conf.ncfgr fr.conf.ncr dr.outcome)
    && (!outcomeIsOk (txOutcome fr dr.outcome) || txClass s d == .express
      || (decide (1 ≤ dr.frags) && decide (dr.frags ≤ maxFrags wire (mmAddFrag (s.mmsl (macOf d)).control))))
    && rxDrawsInSet dr.loop (s.cfg.nQueues d)

/-- The device once the frame's outcome is known: status and interrupt bits of the outcome (R322) and, for a
transmission, the PTP event registers (44_tsu R482). -/
def Device.txEvents (x : Device) (q : Fin 4) (o : TxOutcome) (g : Option PtpMsg) : Device :=
  let x1 := (x.setTsr (outcomeTsr o)).irq q (outcomeIsr o)
  match o, eventKind g with
  | .ok _, some k => x1.ptpTxEvent k
  | _, _ => x1

/-- The device after the write-back: completion (R330), or the bus error that stopped it (R324 (c); log 25). -/
def Device.txWritten (x : Device) (q : Fin 4) (complete : Bool) : Device :=
  if complete then (x.setTsr tsrTxComp).irq q isrTcomp else x.txDescError q

/-- The line and the MMSL after a transmission under the configuration `c` (R327, R333, 45_mmsl R542). -/
def transmit (s : State) (d : Dev) (c : TxConf) (frags : Nat) (f : List Byte) : State :=
  let cls := txClass s d
  let s1 := if ncrLbLocal c.ncr then s else { s with lineOut := s.lineOut ++ [.txOut d f cls] }
  if cls = .preemptable then modMmsl s1 (macOf d) fun y => y.countTx frags else s1

/-- `TX_DONE(q)` (R320). With no frame in flight, or with draws outside their sets, it is passed over (log 3). -/
def runTxDone (d : Dev) (q : Fin 4) (dr : TxDraws) (s : State) : Result :=
  let x := s.dev d
  match (x.queue q).inflight with
  | none => .next s
  | some fr =>
    let o := txOutcome fr dr.outcome
    let im := txImage x fr
    if !txDrawsInSet dr s d fr im.frame.length then .next s
    else
      let ck := if outcomeIsOk o then im.ck else 0
      let ts :=
        if outcomeIsOk o then captureStamp x.tsu (dmacfgTxext fr.conf.dmacfg) (tsMode fr.conf.txBdControl) im.ptp else none
      let s1 := if outcomeIsOk o then transmit s d fr.conf dr.frags im.frame else s
      if txStampOverflow fr.descs ts then .fault .addressOverflow
      else
        let writes := txWriteBack fr.descs o ck ts
        let r := dmaWriteWords ⟨dr.errs, s.cfg.holes⟩ s.mem 0 writes
        let x1 := (x.txEvents q o im.ptp).txWritten q (decide (r.2 = writes.length))
        let x2 := (x1.txStatistics o im.frame).modQueue q fun y => { y with inflight := none }
        let s2 := s1.withDma d r.1 x2.txHaltCheck
        if outcomeIsOk o && ncrLbLocal fr.conf.ncr then rxDevice d im.frame dr.loop s2 else .next s2

end Sys2Proof.Machine
end

