-- ==== Sys2Proof/Machine/HostMem.lean ====
section
/-! DEFINITION. Host accesses to system memory: loads, and stores with the ownership rule of 70_reset R706. -/

namespace Sys2Proof.Machine

/-- What R706 reads of a slot: whether it is hardware-owned, whether it ends the ring, and the buffer it names. -/
structure Slot where
  owned : Bool
  last  : Bool
  buf   : Nat
  len   : Nat
deriving DecidableEq, Repr

/-- A TX slot (R706). -/
def txSlot (m : Memory) (a : Word) : Slot :=
  let w1 := Memory.read32 m (a + 4)
  ⟨!txUsed w1, txWrap w1, (Memory.read32 m a).toNat, txLen w1⟩

/-- An RX slot whose buffers have `bytes` bytes (R706). -/
def rxSlot (m : Memory) (bytes : Nat) (a : Word) : Slot :=
  let w0 := Memory.read32 m a
  ⟨!rxOwn w0, rxWrap w0, (rxAddr w0).toNat, bytes⟩

/-- The first address from `a` on, in the 32-bit space, at which memory lists a byte. -/
def Memory.nextListed : Memory → Nat → Option Nat
  | [], _ => none
  | c :: rest, a =>
    let found := Memory.nextListed rest a
    if a ≤ c.1 ∧ c.1 < 2 ^ 32 then some (min c.1 (found.getD c.1)) else found

/-- A store to `[dst, dst + n)` touches the slot of `size` bytes at `a`, or its buffer, while it is hardware-owned. -/
def slotTouched (t : Slot) (a size dst n : Nat) : Bool :=
  t.owned && (overlaps dst n a size || overlaps dst n t.buf t.len)

/-- A store to `[dst, dst + n)` touches a hardware-owned slot of the ring, or its buffer; the slots run from `a` to the
first with WRAP, or to the end of memory (R706, R717). Slots of which memory lists no byte are all like `blank`, a slot
without WRAP, and are passed at once; `fuel` is more than the number of bytes listed. -/
def ringTouched (m : Memory) (slot : Word → Slot) (blank : Slot) (step dst n : Nat) : Nat → Nat → Bool
  | 0, _ => false
  | fuel + 1, a =>
    match Memory.nextListed m a with
    | none => decide (a < 2 ^ 32) && slotTouched blank a (2 ^ 32 - a) dst n
    | some x =>
      let skipped := step * ((x - a) / step)
      let t := slot (BitVec.ofNat 32 (a + skipped))
      (decide (0 < skipped) && slotTouched blank a skipped dst n)
        || slotTouched t (a + skipped) step dst n
        || (!t.last && ringTouched m slot blank step dst n fuel (a + skipped + step))

/-- The TX ring of a queue, as R706 defines it. -/
def txRingTouched (m : Memory) (extended : Bool) (base : Word) (dst n : Nat) : Bool :=
  ringTouched m (txSlot m) (txSlot [] 0) (stride extended) dst n (m.length + 1) base.toNat

/-- The RX ring of a queue with buffers of `bytes` bytes, as R706 defines it. -/
def rxRingTouched (m : Memory) (extended : Bool) (bytes : Nat) (base : Word) (dst n : Nat) : Bool :=
  ringTouched m (rxSlot m bytes) (rxSlot [] bytes 0) (stride extended) dst n (m.length + 1) base.toNat

/-- A host store of `n` bytes at `dst` touches a hardware-owned slot of an enabled ring of device `d`, or its buffer (R706).
A ring is enabled where NCR.TE (RE) is 1 and its queue's QDIS is 0: one with QDIS = 1 takes no part in the direction
(10_state R38; 60_exceptions R666, 93_implementation_defined I18; DEDUCED, log 32). -/
def deviceTouched (s : State) (dst n : Nat) (d : Dev) : Bool :=
  let x := s.dev d
  (List.finRange 4).any fun q =>
    let y := x.queue q
    decide (q.val < s.cfg.nQueues d)
      && ((ncrTe x.ncr && !y.txQdis && txRingTouched s.mem (dmacfgTxext x.dmacfg) y.txBase dst n)
        || (ncrRe x.ncr && !y.rxQdis && rxRingTouched s.mem (dmacfgRxext x.dmacfg) (rxBufBytes x q) y.rxBase dst n))

/-- A host store of `n` bytes at `dst` breaks the ownership duty of some device (20_memory R114 (d)). -/
def hardwareOwned (s : State) (dst n : Nat) : Bool :=
  deviceTouched s dst n .pmac0 || deviceTouched s dst n .emac0
    || deviceTouched s dst n .pmac1 || deviceTouched s dst n .emac1

/-- A host store of bytes (R706; log 15). An address the platform does not back is stored to like any other (20_memory
R109; log 13). DESIGN CHOICE (log 33): a store of any number of bytes is one step, and its ownership test is made once, on
memory as it was before the step. -/
def runHostStore (a : Word) (bytes : List Byte) (s : State) : Result :=
  if 2 ^ 32 < a.toNat + bytes.length then .fault .hostAccessBeyondMemory
  else if hardwareOwned s a.toNat bytes.length then .fault .hostTouchedHardwareOwned
  else .next { s with mem := Memory.writeBytes s.mem a.toNat bytes }

/-- A host load of a little-endian word; always allowed (R706; log 15). An address the platform does not back is loaded
like any other (20_memory R109; log 13). -/
def runHostLoad (a : Word) (s : State) : Result :=
  if 2 ^ 32 < a.toNat + 4 then .fault .hostAccessBeyondMemory else readAs (Memory.read32 s.mem a) s

end Sys2Proof.Machine
end

