-- ==== Sys2Proof/Machine/Agents.lean ====
section
/-! DEFINITION. The steps of every agent: the host's register accesses as transactions or at bus addresses (20_memory R100,
R101), and the agent steps of 30_encoding R170. -/

namespace Sys2Proof.Machine

/-- A decoded access, or what a rejected one means: an access of another width or alignment is refused (R101), an
unlisted offset is unmapped unless the configuration gives it a register (R143). -/
def runDecoded (r : Except Reject Instr) (s : State) : Result :=
  match r with
  | .ok i => exec i s
  | .error .notWordAccess => .refused .narrowOrMisalignedAccess
  | .error (.unlisted d off op) => accessUnlisted d off op s

/-- A host register access as a transaction word (log 1). -/
def runMmio (t : BitVec 64) (s : State) : Result := runDecoded (decode t) s

/-- `addr` lies in the 4 KiB register window of device `d` (R100). DESIGN CHOICE (log 6): R7 leaves `BASE(d)` OPEN and gives
a bus address no width; it is taken as 32 bits, and a window that would pass 2^32 ends there. -/
def inWindow (addr : Word) (d : Dev) : Bool :=
  decide ((Config.base d).toNat ≤ addr.toNat) && decide (addr.toNat < (Config.base d).toNat + 0x1000)

/-- The device whose window holds `addr`, the first in the order of 10_state R31 (log 6). -/
def windowOf (addr : Word) : Option Dev :=
  if inWindow addr .pmac0 then some .pmac0
  else if inWindow addr .emac0 then some .emac0
  else if inWindow addr .pmac1 then some .pmac1
  else if inWindow addr .emac1 then some .emac1
  else none

/-- A host register access of `size` bytes at a bus address (R100, R101). -/
def runBus (addr : Word) (size : Nat) (op : MmioOp) (s : State) : Result :=
  match windowOf addr with
  | none => .refused .noDeviceAtAddress
  | some d =>
    if size ≠ 4 then .refused .narrowOrMisalignedAccess
    else runDecoded (decodeAt d (addr.toNat - (Config.base d).toNat) op) s

/-- The counters `LINE_EVENT` may count (46_statistics R607). -/
def lineEventEnabled (x : Device) : Stat → Bool
  | .pauseTx => true
  | .deferredTx => !ncfgrFd x.ncfgr
  | .crsErrors => !ncfgrFd x.ncfgr
  | .pauseRx => true
  | .symbolErrorsRx => true
  | .alignmentErrorsRx => true
  | .autoFlushedRx => true
  | _ => false

/-- `LINE_EVENT(c)` (R607); not enabled, it is passed over (log 3). -/
def runLineEvent (d : Dev) (c : Stat) (s : State) : Result :=
  if lineEventEnabled (s.dev d) c then .next (s.modDev d fun x => x.count c) else .next s

/-- The hardware reset of the whole block (70_reset R700-R702; log 26): memory and the line are not part of it. -/
def runReset (s : State) : Result :=
  .next { s with
    pmac0 := Device.reset, emac0 := Device.reset, pmac1 := Device.reset, emac1 := Device.reset,
    mmsl0 := Mmsl.reset, mmsl1 := Mmsl.reset }

/-- One step of one agent. -/
def runInput (i : Input) (s : State) : Result :=
  match i with
  | .mmio t => runMmio t s
  | .bus a n op => runBus a n op s
  | .hostStore a b => runHostStore a b s
  | .hostLoad a => runHostLoad a s
  | .txFetch d q errs => runTxFetch d q errs s
  | .txDone d q dr => runTxDone d q dr s
  | .rxFrame m a dr => runRxFrame m a dr s
  | .tsuTick d => runTsuTick d s
  | .mmSendVerify m => runSendVerify m s
  | .mmTimeout m => runTimeout m s
  | .mmRxRespond m => runRxRespond m s
  | .mmRxVerify m => runRxVerify m s
  | .mmSendRespond m => runSendRespond m s
  | .lineEvent d c => runLineEvent d c s
  | .hwReset => runReset s

/-- The input the machine takes next and the state with it taken: the oldest pending one, else the environment's free
choice (R170; log 2). -/
def nextInput (s : State) : Input × State :=
  match s.inputs with
  | i :: rest => (i, { s with inputs := rest })
  | [] => (Config.environment s.draws, { s with draws := s.draws + 1 })

end Sys2Proof.Machine
end

