-- ==== Sys2Proof/Machine/Step.lean ====
section
/-! DEFINITION. One step of the machine, and where the next register access is fetched from. -/

namespace Sys2Proof.Machine

/-- One atomic step of one agent (30_encoding R170). A configuration outside the constraints of 00_scope R8 is
refused (log 7). -/
def step (s : State) : Host.Outcome State Fault Refusal :=
  if s.cfg.ok then runInput (nextInput s).1 (nextInput s).2 else .refused .parameterConstraint

/-- The state with a register access as its next input (log 2): the instruction of `nbits` bits whose bits are `w`,
every bit above them 0. -/
def State.withFetchWord (s : State) (nbits w : Nat) : State :=
  { s with inputs := .mmio (BitVec.ofNat 64 (w % 2 ^ nbits)) :: s.inputs }

end Sys2Proof.Machine
end

