-- ==== Sys2Proof/Safety.lean ====
section
/-! DEFINITION. What holds in every state a run can reach: the invariants of the spec's rules, in the terms the statements
use. Each is a property of any state, reached or not. -/

namespace Sys2Proof.Machine

/-- Bits 2:0 of a queue's ring bases and current pointers are 0 (10_state R65, R67, R72). -/
structure Queue.Aligned (y : Queue) : Prop where
  txBase : y.txBase &&& 7 = 0
  txCur  : y.txCur &&& 7 = 0
  rxBase : y.rxBase &&& 7 = 0
  rxCur  : y.rxCur &&& 7 = 0

/-- Every descriptor pointer is 8-byte aligned. -/
def State.PointersAligned (s : State) : Prop := ∀ d q, ((s.dev d).queue q).Aligned

/-- `NS < NS_ROLLOVER` on every device (44_tsu R463). -/
def State.NsInRange (s : State) : Prop := ∀ d, (s.dev d).tsu.ns.toNat < s.cfg.nsRollover

/-- Every register of a device keeps to its implemented bits and its legal values (30_encoding R145). -/
structure Device.RegistersLegal (x : Device) : Prop where
  ncr         : x.ncr &&& ~~~ncrStored = 0
  ncfgr       : x.ncfgr &&& ncfgrRsvd = 0
  rxcoen      : ncfgrRxcoen x.ncfgr = false
  dmacfg      : x.dmacfg &&& dmacfgRsvd = 0
  dmacfgHw0   : x.dmacfg &&& dmacfgHw0 = 0
  tsr         : x.tsr &&& ~~~tsrW1c = 0
  rsr         : x.rsr &&& ~~~rsrW1c = 0
  jml         : x.jml &&& jmlRsvd = 0
  jmlLegal    : jmlLegal x.jml = true
  sat         : ∀ k : Fin 4, x.sat[k] &&& satRsvd k = 0
  tidm        : ∀ k : Fin 4, x.tidm[k] &&& 0x7FFF0000#32 = 0
  vlan        : x.stackedVlan &&& 0xFFFC0000#32 = 0
  vlanDepth   : vlanDepth x.stackedVlan ≠ 3
  txBdControl : x.txBdControl &&& 0xFFFFFFCF#32 = 0
  rxBdControl : x.rxBdControl &&& 0xFFFFFFCF#32 = 0
  rxBufSize   : ∀ k : Fin 3, x.rxBufSize[k] &&& 0xFFFFFF00#32 = 0
  t1          : ∀ n : Fin 16, x.t1[n] &&& 0x80000000#32 = 0
  t2          : ∀ n : Fin 16, x.t2[n] &&& 0x00000080#32 = 0
  ethtype     : ∀ n : Fin 8, x.ethtype[n] &&& 0xFFFF0000#32 = 0
  cmpW1       : ∀ n : Fin 32, x.cmpW1[n] &&& 0xFFFFFC00#32 = 0
  subInc      : x.tsu.subInc &&& 0xFF000000#32 = 0
  inc         : x.tsu.inc &&& 0xFFFFFF00#32 = 0
  isr         : ∀ q, (x.queue q).isr &&& ~~~isrImpl q = 0
  imr         : ∀ q, (x.queue q).imr &&& ~~~isrImpl q = 0

/-- Every register of every device keeps to its implemented bits and legal values. -/
def State.RegistersLegal (s : State) : Prop := ∀ d, (s.dev d).RegistersLegal

/-- The transmit engine of a device with `n` queues is in order: at most one frame in flight (41_tx_ring R300), nothing
active or in flight with TE 0 (40_registers R191), a halt pending only for a frame in flight (10_state R66), queue 0
never disabled (R38), a disabled queue idle (R303), and the queues the device lacks disabled (R701). -/
structure Device.TxOrderly (n : Nat) (x : Device) : Prop where
  single   : ∀ p q, (x.queue p).inflight.isSome = true → (x.queue q).inflight.isSome = true → p = q
  stopped  : ncrTe x.ncr = false → ∀ q, (x.queue q).txActive = false ∧ (x.queue q).inflight = none
  halt     : x.haltReq = true → ∃ q, (x.queue q).inflight.isSome = true
  queue0   : (x.queue 0).txQdis = false ∧ (x.queue 0).rxQdis = false
  disabled : ∀ q, (x.queue q).txQdis = true → (x.queue q).txActive = false ∧ (x.queue q).inflight = none
  absent   : ∀ q : Fin 4, n ≤ q.val → (x.queue q).txQdis = true ∧ (x.queue q).rxQdis = true

/-- Every device has a queue 0, and its transmit engine is in order. -/
def State.TxOrderly (s : State) : Prop := ∀ d, 1 ≤ s.cfg.nQueues d ∧ (s.dev d).TxOrderly (s.cfg.nQueues d)

/-- An MMSL under a verify limit is in a state its rules allow (45_mmsl R520-R534): the control register keeps to its
stored bits and a legal VTIME; the machine is idle exactly without verified preemption; it waits only while verifying,
for a packet that was sent; no more than the limit are sent; and while it verifies and does not wait, another may be
sent. -/
structure Mmsl.Legal (limit : Nat) (y : Mmsl) : Prop where
  control   : y.control &&& ~~~mmControlStored = 0
  vtime     : 1 ≤ mmVtime y.control ∧ mmVtime y.control ≤ 128
  idle      : y.vstat = .idle ↔ (mmPen y.control = false ∨ mmVdis y.control = true)
  waiting   : y.waiting = true → y.vstat = .verifying ∧ 1 ≤ y.vcount
  vcount    : y.vcount ≤ limit
  progress  : y.vstat = .verifying → y.waiting = false → 1 ≤ limit → y.vcount < limit
  intStatus : y.intStatus &&& ~~~mmIntImpl = 0
  intMask   : y.intMask &&& ~~~mmIntImpl = 0

/-- Both MMSLs are in a state their rules allow. -/
def State.MmslLegal (s : State) : Prop := ∀ m, (s.mmsl m).Legal s.cfg.verifyLimit

/-- System memory is in its canonical form. -/
def State.MemoryWf (s : State) : Prop := Memory.wf s.mem = true

/-- `b` is the address of one of the four bytes of the word at `a` (20_memory R104). -/
def inWord (a : Word) (b : Nat) : Prop :=
  b = a.toNat ∨ b = (a + 1).toNat ∨ b = (a + 2).toNat ∨ b = (a + 3).toNat

/-- No DMA access of a step is answered with BusErr: its oracle names none, and memory is backed everywhere (20_memory
R122). -/
def NoBusErr (errs : List Nat) (c : Params) : Prop := errs = [] ∧ c.holes = []

/-- The hidden state of 70_reset R702 has its reset values. -/
structure State.HiddenReset (s : State) : Prop where
  queue : ∀ d q, ((s.dev d).queue q).txBase = 0 ∧ ((s.dev d).queue q).txCur = 0
    ∧ ((s.dev d).queue q).txActive = false ∧ ((s.dev d).queue q).inflight = none
    ∧ ((s.dev d).queue q).rxBase = 0 ∧ ((s.dev d).queue q).rxCur = 0
  halt  : ∀ d, (s.dev d).haltReq = false
  tsu   : ∀ d, (s.dev d).tsu.acc = 0 ∧ (s.dev d).tsu.sec = 0 ∧ (s.dev d).tsu.ns = 0
  oct   : ∀ d, (s.dev d).octTx = 0 ∧ (s.dev d).octRx = 0 ∧ (s.dev d).octTxShadow = 0 ∧ (s.dev d).octRxShadow = 0
  mmsl  : ∀ m, (s.mmsl m).vcount = 0 ∧ (s.mmsl m).waiting = false ∧ (s.mmsl m).respondOwed = 0
    ∧ (s.mmsl m).vstat = .idle
  stats : ∀ d c, (s.dev d).stats[statIndex c] = 0
  mmslCounters : ∀ m, (s.mmsl m).assErr = 0 ∧ (s.mmsl m).assOk = 0 ∧ (s.mmsl m).fragRx = 0 ∧ (s.mmsl m).fragTx = 0

/-- The TSU value of a device as one number (44_tsu R464). -/
def tsuTotal (s : State) (d : Dev) : Nat :=
  (s.dev d).tsu.sec.toNat * s.cfg.nsRollover + (s.dev d).tsu.ns.toNat

/-- The register access an input makes, if it is one of a register of the opcode table. -/
def accessOf : Input → Option Instr
  | .mmio t => (decode t).toOption
  | .bus a n op =>
    match windowOf a with
    | some d => if n = 4 then (decodeAt d (a.toNat - (Config.base d).toNat) op).toOption else none
    | none => none
  | _ => none

/-- The input is a host write of the time of device `d`: TSU_SEC_HI, TSU_SEC_LO or TSU_NSEC (44_tsu R464). -/
def writesTsu (d : Dev) (i : Input) : Bool :=
  match accessOf i with
  | some (.tsuSecHi e (.write _)) => decide (e = d)
  | some (.tsuSecLo e (.write _)) => decide (e = d)
  | some (.tsuNsec e (.write _)) => decide (e = d)
  | _ => false

/-- An offset, beyond those the opcode table lists, that a configuration may give a register to (00_scope R7). -/
def extraOffset (off : Nat) : Bool :=
  decide (off % 4 = 0) &&
    ((decide (0x510 ≤ off) && decide (off < 0x580) && !(decide (0x540 ≤ off) && decide (off < 0x550)))
      || (decide (0x6F0 ≤ off) && decide (off < 0x700)) || (decide (0x760 ≤ off) && decide (off < 0x800)))

/-- Device `d` of a configuration has a register at `off` (10_state R31, R33; 30_encoding R143). -/
def hasRegister (c : Params) (d : Dev) (off : Nat) : Bool :=
  ((lookupRow off rows).isSome || extraOffset off) && regExists c d off

/-- The offsets of the COR registers (20_memory R120): ISR, ISR_Q, the 46 statistics counters, the MMSL counters and
MMSL_INT_STATUS. -/
def isCor (off : Nat) : Bool :=
  decide (off = 0x024) || (decide (0x100 ≤ off) && decide (off ≤ 0x1B4))
    || (decide (0x400 ≤ off) && decide (off ≤ 0x408)) || (decide (0x808 ≤ off) && decide (off ≤ 0x818))

/-- The offsets of the registers whose only implemented fields are RO or COR (10_state R33). -/
def isReadOnly (off : Nat) : Bool :=
  isCor off || decide (off = 0x030) || decide (off = 0x0FC) || (decide (0x1E0 ≤ off) && decide (off ≤ 0x1FC))
    || (decide (0x640 ≤ off) && decide (off ≤ 0x648)) || decide (off = 0x804) || decide (off = 0x824)

/-- The reset column of 10_state R33, by offset; `MODULE_ID` is the parameter. -/
def resetValue (off : Nat) : Word :=
  if off = 0x004 then 0x00080000#32
  else if off = 0x010 then 0x00180004#32
  else if off = 0x030 then 0x07FC0CFE#32
  else if off = 0x048 then 0x00002800#32
  else if off = 0x0C0 then 0x000188A8#32
  else if off = 0x0FC then Config.moduleId
  else if 0x440 ≤ off ∧ off ≤ 0x448 then 0x00000001#32
  else if 0x480 ≤ off ∧ off ≤ 0x488 then 0x00000001#32
  else if 0x4A0 ≤ off ∧ off ≤ 0x4A8 then 0x00000018#32
  else if 0x640 ≤ off ∧ off ≤ 0x648 then 0x000008FE#32
  else if off = 0x800 then 0x00000A00#32
  else if off = 0x824 then 0x00000003#32
  else 0

end Sys2Proof.Machine
end

