-- ==== Sys2Proof/Certificates/Slice0/Obligations.lean ====
section
/-! DEFINITION. The statements for the provers, each with the rule of spec/ it formalises, and the tables of registers they
range over. -/

namespace Sys2Proof.Machine

/-- The access of a 32-bit statistics counter. -/
def statAccess : Stat → Dev → MmioOp → Instr
  | .framesTx => .framesTx
  | .bcastTx => .bcastTx
  | .mcastTx => .mcastTx
  | .pauseTx => .pauseTx
  | .frames64Tx => .frames64Tx
  | .frames65to127Tx => .frames65to127Tx
  | .frames128to255Tx => .frames128to255Tx
  | .frames256to511Tx => .frames256to511Tx
  | .frames512to1023Tx => .frames512to1023Tx
  | .frames1024to1518Tx => .frames1024to1518Tx
  | .frames1519Tx => .frames1519Tx
  | .txUnderruns => .txUnderruns
  | .singleCollisions => .singleCollisions
  | .multipleCollisions => .multipleCollisions
  | .excessiveCollisions => .excessiveCollisions
  | .lateCollisions => .lateCollisions
  | .deferredTx => .deferredTx
  | .crsErrors => .crsErrors
  | .framesRx => .framesRx
  | .bcastRx => .bcastRx
  | .mcastRx => .mcastRx
  | .pauseRx => .pauseRx
  | .frames64Rx => .frames64Rx
  | .frames65to127Rx => .frames65to127Rx
  | .frames128to255Rx => .frames128to255Rx
  | .frames256to511Rx => .frames256to511Rx
  | .frames512to1023Rx => .frames512to1023Rx
  | .frames1024to1518Rx => .frames1024to1518Rx
  | .frames1519Rx => .frames1519Rx
  | .undersizeRx => .undersizeRx
  | .oversizeRx => .oversizeRx
  | .jabbersRx => .jabbersRx
  | .fcsErrorsRx => .fcsErrorsRx
  | .lengthErrorsRx => .lengthErrorsRx
  | .symbolErrorsRx => .symbolErrorsRx
  | .alignmentErrorsRx => .alignmentErrorsRx
  | .resourceErrorsRx => .resourceErrorsRx
  | .overrunsRx => .overrunsRx
  | .ipChecksumErrorsRx => .ipChecksumErrorsRx
  | .tcpChecksumErrorsRx => .tcpChecksumErrorsRx
  | .udpChecksumErrorsRx => .udpChecksumErrorsRx
  | .autoFlushedRx => .autoFlushedRx

/-- A plain `RW` register: its access, its offset, its reserved bits, what it reads and what a write stores. -/
structure PlainReg where
  access : Dev → MmioOp → Instr
  off    : Nat
  rsvd   : Word
  get    : Device → Word
  set    : Word → Device → Device

/-- A read of the register returns its value; a write of reserved bits is a fault and changes nothing; any other write
stores its value (40_registers R181, R182). -/
def PlainReg.Works (r : PlainReg) (d : Dev) (s : State) : Prop :=
  exec (r.access d .read) s = .next { s with rdata := r.get (s.dev d) }
    ∧ ∀ v : Word,
      (v &&& r.rsvd = 0 → exec (r.access d (.write v)) s = .next (s.setDev d (r.set v (s.dev d))))
        ∧ (v &&& r.rsvd ≠ 0 → exec (r.access d (.write v)) s = .fault (.reservedBitWritten r.off (v &&& r.rsvd)))

/-- The address filter, type-ID, PTP unicast, capture mode and TSU registers that every device has. -/
def plainRegs : List PlainReg :=
  [⟨.hrb, 0x080, 0, (·.hrb), fun v x => { x with hrb := v }⟩,
   ⟨.hrt, 0x084, 0, (·.hrt), fun v x => { x with hrt := v }⟩,
   ⟨.sa1b, 0x088, 0, (·.sab[(0 : Fin 4)]), fun v x => { x with sab := x.sab.set 0 v }⟩,
   ⟨.sa1t, 0x08C, 0xFFFF0000#32, (·.sat[(0 : Fin 4)]), fun v x => { x with sat := x.sat.set 0 v }⟩,
   ⟨.sa2b, 0x090, 0, (·.sab[(1 : Fin 4)]), fun v x => { x with sab := x.sab.set 1 v }⟩,
   ⟨.sa2t, 0x094, 0xC0FE0000#32, (·.sat[(1 : Fin 4)]), fun v x => { x with sat := x.sat.set 1 v }⟩,
   ⟨.sa3b, 0x098, 0, (·.sab[(2 : Fin 4)]), fun v x => { x with sab := x.sab.set 2 v }⟩,
   ⟨.sa3t, 0x09C, 0xC0FE0000#32, (·.sat[(2 : Fin 4)]), fun v x => { x with sat := x.sat.set 2 v }⟩,
   ⟨.sa4b, 0x0A0, 0, (·.sab[(3 : Fin 4)]), fun v x => { x with sab := x.sab.set 3 v }⟩,
   ⟨.sa4t, 0x0A4, 0xC0FE0000#32, (·.sat[(3 : Fin 4)]), fun v x => { x with sat := x.sat.set 3 v }⟩,
   ⟨.tidm1, 0x0A8, 0x7FFF0000#32, (·.tidm[(0 : Fin 4)]), fun v x => { x with tidm := x.tidm.set 0 v }⟩,
   ⟨.tidm2, 0x0AC, 0x7FFF0000#32, (·.tidm[(1 : Fin 4)]), fun v x => { x with tidm := x.tidm.set 1 v }⟩,
   ⟨.tidm3, 0x0B0, 0x7FFF0000#32, (·.tidm[(2 : Fin 4)]), fun v x => { x with tidm := x.tidm.set 2 v }⟩,
   ⟨.tidm4, 0x0B4, 0x7FFF0000#32, (·.tidm[(3 : Fin 4)]), fun v x => { x with tidm := x.tidm.set 3 v }⟩,
   ⟨.rxPtpUnicast, 0x0E0, 0, (·.rxPtpUnicast), fun v x => { x with rxPtpUnicast := v }⟩,
   ⟨.txPtpUnicast, 0x0E4, 0, (·.txPtpUnicast), fun v x => { x with txPtpUnicast := v }⟩,
   ⟨.txBdControl, 0x4CC, 0xFFFFFFCF#32, (·.txBdControl), fun v x => { x with txBdControl := v }⟩,
   ⟨.rxBdControl, 0x4D0, 0xFFFFFFCF#32, (·.rxBdControl), fun v x => { x with rxBdControl := v }⟩,
   ⟨.tsuSubInc, 0x1BC, 0xFF000000#32, (·.tsu.subInc), fun v x => { x with tsu := { x.tsu with subInc := v } }⟩,
   ⟨.tsuInc, 0x1DC, 0xFFFFFF00#32, (·.tsu.inc), fun v x => { x with tsu := { x.tsu with inc := v } }⟩,
   ⟨.tsuSecHi, 0x1C0, 0, (·.tsu.sec.extractLsb' 32 32), fun v x => { x with tsu := { x.tsu with sec := v ++ x.tsu.sec.extractLsb' 0 32 } }⟩,
   ⟨.tsuSecLo, 0x1D0, 0, (·.tsu.sec.extractLsb' 0 32), fun v x => { x with tsu := { x.tsu with sec := x.tsu.sec.extractLsb' 32 32 ++ v } }⟩]

/-- The receive buffer sizes of queues 1 to 3. -/
def rxBufRegs : List PlainReg :=
  [⟨.rxbufSizeQ1, 0x4A0, 0xFFFFFF00#32, (·.rxBufSize[(0 : Fin 3)]), fun v x => { x with rxBufSize := x.rxBufSize.set 0 v }⟩,
   ⟨.rxbufSizeQ2, 0x4A4, 0xFFFFFF00#32, (·.rxBufSize[(1 : Fin 3)]), fun v x => { x with rxBufSize := x.rxBufSize.set 1 v }⟩,
   ⟨.rxbufSizeQ3, 0x4A8, 0xFFFFFF00#32, (·.rxBufSize[(2 : Fin 3)]), fun v x => { x with rxBufSize := x.rxBufSize.set 2 v }⟩]

/-- The Type-1 and Type-2 screeners, the ethertype registers and the compare registers of the opcode table, each with
the parameter that counts its family and its index. -/
def screenerRegs : List ((Params → Nat) × Nat × PlainReg) :=
  ([⟨.t1_0, 0x500, 0x80000000#32, (·.t1[(0 : Fin 16)]), fun v x => { x with t1 := x.t1.set 0 v }⟩,
   ⟨.t1_1, 0x504, 0x80000000#32, (·.t1[(1 : Fin 16)]), fun v x => { x with t1 := x.t1.set 1 v }⟩,
   ⟨.t1_2, 0x508, 0x80000000#32, (·.t1[(2 : Fin 16)]), fun v x => { x with t1 := x.t1.set 2 v }⟩,
   ⟨.t1_3, 0x50C, 0x80000000#32, (·.t1[(3 : Fin 16)]), fun v x => { x with t1 := x.t1.set 3 v }⟩].zipIdx.map fun r => (Params.nT1, r.2, r.1))
    ++ ([⟨.t2_0, 0x540, 0x00000080#32, (·.t2[(0 : Fin 16)]), fun v x => { x with t2 := x.t2.set 0 v }⟩,
   ⟨.t2_1, 0x544, 0x00000080#32, (·.t2[(1 : Fin 16)]), fun v x => { x with t2 := x.t2.set 1 v }⟩,
   ⟨.t2_2, 0x548, 0x00000080#32, (·.t2[(2 : Fin 16)]), fun v x => { x with t2 := x.t2.set 2 v }⟩,
   ⟨.t2_3, 0x54C, 0x00000080#32, (·.t2[(3 : Fin 16)]), fun v x => { x with t2 := x.t2.set 3 v }⟩].zipIdx.map fun r => (Params.nT2, r.2, r.1))
    ++ ([⟨.ethtype_0, 0x6E0, 0xFFFF0000#32, (·.ethtype[(0 : Fin 8)]), fun v x => { x with ethtype := x.ethtype.set 0 v }⟩,
   ⟨.ethtype_1, 0x6E4, 0xFFFF0000#32, (·.ethtype[(1 : Fin 8)]), fun v x => { x with ethtype := x.ethtype.set 1 v }⟩,
   ⟨.ethtype_2, 0x6E8, 0xFFFF0000#32, (·.ethtype[(2 : Fin 8)]), fun v x => { x with ethtype := x.ethtype.set 2 v }⟩,
   ⟨.ethtype_3, 0x6EC, 0xFFFF0000#32, (·.ethtype[(3 : Fin 8)]), fun v x => { x with ethtype := x.ethtype.set 3 v }⟩].zipIdx.map fun r => (Params.nEth, r.2, r.1))
    ++ ([⟨.cmpW0_0, 0x700, 0, (·.cmpW0[(0 : Fin 32)]), fun v x => { x with cmpW0 := x.cmpW0.set 0 v }⟩,
   ⟨.cmpW0_1, 0x708, 0, (·.cmpW0[(1 : Fin 32)]), fun v x => { x with cmpW0 := x.cmpW0.set 1 v }⟩,
   ⟨.cmpW0_2, 0x710, 0, (·.cmpW0[(2 : Fin 32)]), fun v x => { x with cmpW0 := x.cmpW0.set 2 v }⟩,
   ⟨.cmpW0_3, 0x718, 0, (·.cmpW0[(3 : Fin 32)]), fun v x => { x with cmpW0 := x.cmpW0.set 3 v }⟩,
   ⟨.cmpW0_4, 0x720, 0, (·.cmpW0[(4 : Fin 32)]), fun v x => { x with cmpW0 := x.cmpW0.set 4 v }⟩,
   ⟨.cmpW0_5, 0x728, 0, (·.cmpW0[(5 : Fin 32)]), fun v x => { x with cmpW0 := x.cmpW0.set 5 v }⟩,
   ⟨.cmpW0_6, 0x730, 0, (·.cmpW0[(6 : Fin 32)]), fun v x => { x with cmpW0 := x.cmpW0.set 6 v }⟩,
   ⟨.cmpW0_7, 0x738, 0, (·.cmpW0[(7 : Fin 32)]), fun v x => { x with cmpW0 := x.cmpW0.set 7 v }⟩,
   ⟨.cmpW0_8, 0x740, 0, (·.cmpW0[(8 : Fin 32)]), fun v x => { x with cmpW0 := x.cmpW0.set 8 v }⟩,
   ⟨.cmpW0_9, 0x748, 0, (·.cmpW0[(9 : Fin 32)]), fun v x => { x with cmpW0 := x.cmpW0.set 9 v }⟩,
   ⟨.cmpW0_10, 0x750, 0, (·.cmpW0[(10 : Fin 32)]), fun v x => { x with cmpW0 := x.cmpW0.set 10 v }⟩,
   ⟨.cmpW0_11, 0x758, 0, (·.cmpW0[(11 : Fin 32)]), fun v x => { x with cmpW0 := x.cmpW0.set 11 v }⟩].zipIdx.map fun r => (Params.nCmp, r.2, r.1))
    ++ ([⟨.cmpW1_0, 0x704, 0xFFFFFC00#32, (·.cmpW1[(0 : Fin 32)]), fun v x => { x with cmpW1 := x.cmpW1.set 0 v }⟩,
   ⟨.cmpW1_1, 0x70C, 0xFFFFFC00#32, (·.cmpW1[(1 : Fin 32)]), fun v x => { x with cmpW1 := x.cmpW1.set 1 v }⟩,
   ⟨.cmpW1_2, 0x714, 0xFFFFFC00#32, (·.cmpW1[(2 : Fin 32)]), fun v x => { x with cmpW1 := x.cmpW1.set 2 v }⟩,
   ⟨.cmpW1_3, 0x71C, 0xFFFFFC00#32, (·.cmpW1[(3 : Fin 32)]), fun v x => { x with cmpW1 := x.cmpW1.set 3 v }⟩,
   ⟨.cmpW1_4, 0x724, 0xFFFFFC00#32, (·.cmpW1[(4 : Fin 32)]), fun v x => { x with cmpW1 := x.cmpW1.set 4 v }⟩,
   ⟨.cmpW1_5, 0x72C, 0xFFFFFC00#32, (·.cmpW1[(5 : Fin 32)]), fun v x => { x with cmpW1 := x.cmpW1.set 5 v }⟩,
   ⟨.cmpW1_6, 0x734, 0xFFFFFC00#32, (·.cmpW1[(6 : Fin 32)]), fun v x => { x with cmpW1 := x.cmpW1.set 6 v }⟩,
   ⟨.cmpW1_7, 0x73C, 0xFFFFFC00#32, (·.cmpW1[(7 : Fin 32)]), fun v x => { x with cmpW1 := x.cmpW1.set 7 v }⟩,
   ⟨.cmpW1_8, 0x744, 0xFFFFFC00#32, (·.cmpW1[(8 : Fin 32)]), fun v x => { x with cmpW1 := x.cmpW1.set 8 v }⟩,
   ⟨.cmpW1_9, 0x74C, 0xFFFFFC00#32, (·.cmpW1[(9 : Fin 32)]), fun v x => { x with cmpW1 := x.cmpW1.set 9 v }⟩,
   ⟨.cmpW1_10, 0x754, 0xFFFFFC00#32, (·.cmpW1[(10 : Fin 32)]), fun v x => { x with cmpW1 := x.cmpW1.set 10 v }⟩,
   ⟨.cmpW1_11, 0x75C, 0xFFFFFC00#32, (·.cmpW1[(11 : Fin 32)]), fun v x => { x with cmpW1 := x.cmpW1.set 11 v }⟩].zipIdx.map fun r => (Params.nCmp, r.2, r.1))

/-- The accesses of the interrupt status, enable, disable and mask registers of each queue. -/
def isrAccess : Fin 4 → Dev → MmioOp → Instr := ![.isr, .isrQ1, .isrQ2, .isrQ3]
def ierAccess : Fin 4 → Dev → MmioOp → Instr := ![.ier, .ierQ1, .ierQ2, .ierQ3]
def idrAccess : Fin 4 → Dev → MmioOp → Instr := ![.idr, .idrQ1, .idrQ2, .idrQ3]
def imrAccess : Fin 4 → Dev → MmioOp → Instr := ![.imr, .imrQ1, .imrQ2, .imrQ3]

/-- The accesses of the TX and RX base pointers of each queue, and their offsets. -/
def txPtrAccess : Fin 4 → Dev → MmioOp → Instr := ![.txqbqp, .txqbqpQ1, .txqbqpQ2, .txqbqpQ3]
def rxPtrAccess : Fin 4 → Dev → MmioOp → Instr := ![.rxqbqp, .rxqbqpQ1, .rxqbqpQ2, .rxqbqpQ3]
def txPtrOff : Fin 4 → Nat := ![0x01C, 0x440, 0x444, 0x448]
def rxPtrOff : Fin 4 → Nat := ![0x018, 0x480, 0x484, 0x488]

/-- The PTP event timestamp registers: the access and what it reads. -/
def ptpRegs : List ((Dev → MmioOp → Instr) × (PtpRegs → Word)) :=
  [(.ptpTxSec, (·.txSec)), (.ptpTxNsec, (·.txNsec)), (.ptpRxSec, (·.rxSec)), (.ptpRxNsec, (·.rxNsec)),
   (.peerTxSec, (·.peerTxSec)), (.peerTxNsec, (·.peerTxNsec)), (.peerRxSec, (·.peerRxSec)),
   (.peerRxNsec, (·.peerRxNsec))]

/-- The clear-on-read registers of the MMSL: the access, what it reads and what the read leaves. -/
def mmslCorRegs : List ((Dev → MmioOp → Instr) × (Mmsl → Word) × (Mmsl → Mmsl)) :=
  [(.mmslAssErr, (·.assErr), fun y => { y with assErr := 0 }),
   (.mmslAssOk, (·.assOk), fun y => { y with assOk := 0 }),
   (.mmslFragRx, (·.fragRx), fun y => { y with fragRx := 0 }),
   (.mmslFragTx, (·.fragTx), fun y => { y with fragTx := 0 }),
   (.mmslIntStatus, (·.intStatus), fun y => { y with intStatus := 0 })]

/-- How a transmission that is not delivered reports (41_tx_ring R322, R330, R331): the outcome, its TSR bits, its
interrupt bits, its bit of the first descriptor and its counter. -/
def failures : List (TxOutcome × Word × Word × Word × Option Stat) :=
  [(.und, 0x040#32, 0x10#32, 0x10000000#32, some .txUnderruns),
   (.lco, 0x082#32, 0x20#32, 0x04000000#32, some .lateCollisions),
   (.rle, 0x006#32, 0x20#32, 0x20000000#32, some .excessiveCollisions),
   (.busErr, 0x010#32, 0x40#32, 0x08000000#32, none)]

/-- A frame that passes every receive check (43_classifier R408), and that the address filters accept (R412). -/
structure CleanFrame (x : Device) (dr : RxDraws) (f : List Byte) : Prop where
  checks   : (rxChecks x.ncfgr x.jml (parseFrame x.stackedVlan (f.length - 4) f) f.length (fcsOk dr.runtFcs f)).2 = true
  accepted : accepted x f = true

/-- The PTP message of a frame received by device `x` (44_tsu R470). -/
def rxMessage (x : Device) (f : List Byte) : Option PtpMsg :=
  ptpMessage (parseFrame x.stackedVlan (f.length - 4) f) f (if ncrPtpUcEn x.ncr then some x.rxPtpUnicast else none)

/-- The interrupt bit of a received event message of each type (44_tsu R482). -/
def rxEventBit : Option Nat → Word
  | some 0 => 0x00080000#32
  | some 1 => 0x00040000#32
  | some 2 => 0x00400000#32
  | some 3 => 0x00800000#32
  | _ => 0

/-- The interrupt bit of a transmitted event message of each type (44_tsu R482). -/
def txEventBit : Option Nat → Word
  | some 0 => 0x00200000#32
  | some 1 => 0x00100000#32
  | some 2 => 0x01000000#32
  | some 3 => 0x02000000#32
  | _ => 0

/-- The event registers after a received event message of each type (44_tsu R482). -/
def rxEventRegs (x : Device) : Option Nat → PtpRegs
  | some 0 => { x.ptp with rxSec := x.tsu.sec.extractLsb' 0 32, rxNsec := x.tsu.ns.setWidth 32 }
  | some 1 => { x.ptp with rxSec := x.tsu.sec.extractLsb' 0 32, rxNsec := x.tsu.ns.setWidth 32 }
  | some 2 => { x.ptp with peerRxSec := x.tsu.sec.extractLsb' 0 32, peerRxNsec := x.tsu.ns.setWidth 32 }
  | some 3 => { x.ptp with peerRxSec := x.tsu.sec.extractLsb' 0 32, peerRxNsec := x.tsu.ns.setWidth 32 }
  | _ => x.ptp

/-- The event registers after a transmitted event message of each type (44_tsu R482). -/
def txEventRegs (x : Device) : Option Nat → PtpRegs
  | some 0 => { x.ptp with txSec := x.tsu.sec.extractLsb' 0 32, txNsec := x.tsu.ns.setWidth 32 }
  | some 1 => { x.ptp with txSec := x.tsu.sec.extractLsb' 0 32, txNsec := x.tsu.ns.setWidth 32 }
  | some 2 => { x.ptp with peerTxSec := x.tsu.sec.extractLsb' 0 32, peerTxNsec := x.tsu.ns.setWidth 32 }
  | some 3 => { x.ptp with peerTxSec := x.tsu.sec.extractLsb' 0 32, peerTxNsec := x.tsu.ns.setWidth 32 }
  | _ => x.ptp

/-- A timestamp is stored: extended descriptors, and a capture mode that takes the frame (44_tsu R477). -/
def stampStored (extended : Bool) (control : Word) (g : Option PtpMsg) : Bool :=
  let mode := control.extractLsb' 4 2
  extended && (mode == 3#2 || (mode == 2#2 && g.isSome) || (mode == 1#2 && (eventKind g).isSome))

/-- The timestamp words of the descriptor at `a` (30_encoding R149). -/
def stampWords (t : Tsu) (a : Word) : List (Word × Word) :=
  [(a + 8, t.sec.extractLsb' 0 2 ++ t.ns), (a + 12, (t.sec.extractLsb' 2 4).setWidth 32)]

/-- The counters of a frame sent after `c` collisions (41_tx_ring R331). -/
def txCounted (c : Nat) (f : List Byte) : Stat → Bool
  | .framesTx => true
  | .bcastTx => isBroadcast f
  | .mcastTx => !isBroadcast f && isGroup f
  | .frames64Tx => decide (f.length ≤ 64)
  | .frames65to127Tx => decide (65 ≤ f.length ∧ f.length ≤ 127)
  | .frames128to255Tx => decide (128 ≤ f.length ∧ f.length ≤ 255)
  | .frames256to511Tx => decide (256 ≤ f.length ∧ f.length ≤ 511)
  | .frames512to1023Tx => decide (512 ≤ f.length ∧ f.length ≤ 1023)
  | .frames1024to1518Tx => decide (1024 ≤ f.length ∧ f.length ≤ 1518)
  | .frames1519Tx => decide (1519 ≤ f.length)
  | .singleCollisions => decide (c = 1)
  | .multipleCollisions => decide (2 ≤ c)
  | _ => false

/-- How an outcome shows in TSR and in the queue's interrupt status (41_tx_ring R322). -/
def outcomeBits : TxOutcome → Word × Word
  | .ok c => (if 1 ≤ c then 0x002#32 else 0, 0)
  | .und => (0x040#32, 0x10#32)
  | .lco => (0x082#32, 0x20#32)
  | .rle => (0x006#32, 0x20#32)
  | .busErr => (0x010#32, 0x40#32)

/-- The counters of a frame of each outcome (41_tx_ring R331). -/
def outcomeCounted (f : List Byte) : TxOutcome → Stat → Bool
  | .ok c, k => txCounted c f k
  | .und, k => decide (k = .txUnderruns)
  | .lco, k => decide (k = .lateCollisions)
  | .rle, k => decide (k = .excessiveCollisions)
  | .busErr, _ => false

/-- A frame after one-step sync wrote the bytes from `lo` to `hi` of it: the others as they were, but for a UDP checksum over
IPv4, which is 0 (44_tsu R493; log 21). -/
def SyncKeeps (e : PtpMsg) (lo hi : Nat) (f h : List Byte) : Prop :=
  ∀ i, i < lo ∨ hi ≤ i →
    ((∃ l4, e.via = .ipv4 l4 ∧ (i = l4 + 6 ∨ i = l4 + 7)) → h.getD i 0 = 0)
      ∧ ((∀ l4, e.via = .ipv4 l4 → i ≠ l4 + 6 ∧ i ≠ l4 + 7) → h.getD i 0 = f.getD i 0)

/-- The counters of a stored frame (42_rx_ring R367). -/
def rxCounted (f : List Byte) : Stat → Bool
  | .framesRx => true
  | .bcastRx => isBroadcast f
  | .mcastRx => !isBroadcast f && isGroup f
  | .frames64Rx => decide (f.length = 64)
  | .frames65to127Rx => decide (65 ≤ f.length ∧ f.length ≤ 127)
  | .frames128to255Rx => decide (128 ≤ f.length ∧ f.length ≤ 255)
  | .frames256to511Rx => decide (256 ≤ f.length ∧ f.length ≤ 511)
  | .frames512to1023Rx => decide (512 ≤ f.length ∧ f.length ≤ 1023)
  | .frames1024to1518Rx => decide (1024 ≤ f.length ∧ f.length ≤ 1518)
  | .frames1519Rx => decide (1519 ≤ f.length)
  | _ => false

/-- The counters of the receive checks for a frame that passes them (43_classifier R408). -/
def checkCounted (p : Parsed) (n : Nat) (ok : Bool) : Stat → Bool
  | .fcsErrorsRx => !ok
  | .lengthErrorsRx => lengthFieldError p n
  | _ => false

/-- The status word of a frame's last descriptor (42_rx_ring R364): `len` bytes stored over `k` descriptors. -/
structure EofWord (w : Word) (x : Device) (p : Parsed) (f : List Byte) (ok : Bool) (len k : Nat) : Prop where
  length    : field w 0 13 = len % 2 ^ 13
  bit13     : w.getLsbD 13 = if ncfgrJumbo x.ncfgr then len.testBit 13 else !ok
  sof       : w.getLsbD 14 = decide (k = 1)
  eof       : w.getLsbD 15 = true
  cfi       : w.getLsbD 16 = (decide (1 ≤ p.tags) && decide (p.cfi = 1))
  vpri      : field w 17 3 = if 1 ≤ p.tags then p.pcp else 0
  prioTag   : w.getLsbD 20 = (decide (1 ≤ p.tags) && decide (p.vid = 0))
  vlanTag   : w.getLsbD 21 = decide (1 ≤ p.tags)
  tidmIdx   : field w 22 2 = (tidmHit x p).elim 0 Fin.val
  tidmMatch : w.getLsbD 24 = (tidmHit x p).isSome
  saIdx     : field w 25 2 = (saHit x f).elim 0 Fin.val
  saMatch   : w.getLsbD 27 = (saHit x f).isSome
  bit28     : w.getLsbD 28 = false
  uhash     : w.getLsbD 29 = (hashHit x f && !isGroup f)
  mhash     : w.getLsbD 30 = (hashHit x f && isGroup f)
  bcast     : w.getLsbD 31 = isBroadcast f

/-- Device `y` is device `x` after the frame `f` was stored in queue `t`: RSR.REC, the interrupt bits, the pointer at `a`,
the event registers and the counters of 42_rx_ring R366, R367, 44_tsu R482 and 43_classifier R408, and nothing else. -/
structure RxStored (x y : Device) (t : Fin 4) (a : Word) (f : List Byte) (ok : Bool) : Prop where
  rsr    : y.rsr = x.rsr ||| 2#32
  queue  : ∀ q, y.queue q =
    { x.queue q with
      isr := (x.queue q).isr ||| (if q = t then 2#32 else 0)
        ||| (if q = 0 then rxEventBit (eventKind (rxMessage x f)) else 0)
      rxCur := if q = t then a else (x.queue q).rxCur }
  ptp    : y.ptp = rxEventRegs x (eventKind (rxMessage x f))
  octets : y.octRx = bump x.octRx f.length
  stats  : ∀ c, y.stats[statIndex c] =
    if rxCounted f c || checkCounted (parseFrame x.stackedVlan (f.length - 4) f) f.length ok c then
      bump x.stats[statIndex c] 1
    else x.stats[statIndex c]
  rest   : y = { x with rsr := y.rsr, queues := y.queues, ptp := y.ptp, octRx := y.octRx, stats := y.stats }

/-- Device `y` is device `x` after a received frame `f` that passes the receive checks and is not stored: what its checks
count (43_classifier R408) and the event it is (44_tsu R482) are recorded; RSR takes `rsr`, the status register of queue
`t` takes `isr`, the counter `c` counts one, the pointer of queue `t` is `cur`; and nothing else changes. -/
structure RxReported (x y : Device) (f : List Byte) (ok : Bool) (t : Fin 4) (rsr isr : Word) (c : Option Stat)
    (cur : Word) : Prop where
  rsr    : y.rsr = x.rsr ||| rsr
  queue  : ∀ q, y.queue q =
    { x.queue q with
      isr := (x.queue q).isr ||| (if q = t then isr else 0)
        ||| (if q = 0 then rxEventBit (eventKind (rxMessage x f)) else 0)
      rxCur := if q = t then cur else (x.queue q).rxCur }
  ptp    : y.ptp = rxEventRegs x (eventKind (rxMessage x f))
  stats  : ∀ k, y.stats[statIndex k] =
    if c = some k ∨ checkCounted (parseFrame x.stackedVlan (f.length - 4) f) f.length ok k = true then
      bump x.stats[statIndex k] 1
    else x.stats[statIndex k]
  rest   : y = { x with rsr := y.rsr, queues := y.queues, ptp := y.ptp, stats := y.stats }

/-- The frame reaches queue `t` of device `d` (42_rx_ring R355): RE is 1, there is no overrun, it passes the checks, an
address filter accepts it, and the screeners route it there. -/
structure RxReaches (s : State) (d : Dev) (f : List Byte) (dr : RxDraws) (t : Fin 4) : Prop where
  enabled   : ncrRe (s.dev d).ncr = true
  noOverrun : dr.overrun = false
  clean     : CleanFrame (s.dev d) dr f
  routed    : targetQueue (s.cfg.nQueues d) dr.route
    (screen s.cfg (s.dev d) dr.tests (parseFrame (s.dev d).stackedVlan (f.length - 4) f) f) = some t

/-- One counter of a device counted once (46_statistics R560). -/
def countedOnce (x : Device) (c : Stat) : Device := { x with stats := x.stats.set (statIndex c) (bump x.stats[statIndex c] 1) }

/-- The buffers of `descs`, of `bytes` bytes each, do not lie on the words at `words`. -/
def BuffersOff (bytes : Nat) (descs : List (Word × Word)) (words : List Word) : Prop :=
  ∀ r ∈ descs, ∀ a ∈ words, ∀ b, inWord a b → b < (rxAddr r.2).toNat ∨ (rxAddr r.2).toNat + bytes ≤ b

/-- The register at `off` of device `d` works (40_registers R181, R182): a read returns `get`, a write of reserved bits is
a fault, any other write stores by `set`. -/
def WorksAt (d : Dev) (off : Nat) (rsvd : Word) (get : Device → Word) (set : Word → Device → Device) (s : State) : Prop :=
  runDecoded (decodeAt d off .read) s = .next { s with rdata := get (s.dev d) }
    ∧ ∀ v : Word, runDecoded (decodeAt d off (.write v)) s =
      if v &&& rsvd = 0 then .next (s.setDev d (set v (s.dev d))) else .fault (.reservedBitWritten off (v &&& rsvd))

/-- The MMSL after a preemptable frame that came in `k` fragments (45_mmsl R543-R545). -/
def mmslAccounted (y : Mmsl) (k : Nat) (aerr : Bool) : Mmsl :=
  { y with
    fragRx := bump y.fragRx (k - 1)
    assOk := if 2 ≤ k ∧ aerr = false then bump y.assOk 1 else y.assOk
    assErr := if aerr then bump y.assErr 1 else y.assErr
    intStatus := if aerr then y.intStatus ||| 2#32 else y.intStatus }

/-- From the address `a` on, a transmit ring holds the hardware-owned descriptors `descs`, as `(address, w1)`; only the last
may have LAST, the ring comes back to `first` after the last at the earliest, and `a'` is the address after them
(41_tx_ring R302, R310). -/
def TxChain (m : Memory) (base first : Word) (step : Nat) : Word → List (Word × Word) → Word → Prop
  | a, [], a' => a = a'
  | a, p :: rest, a' =>
    p.1 = a ∧ p.2 = Memory.read32 m (a + 4) ∧ txUsed p.2 = false
      ∧ ∃ b, nextDesc base (txWrap p.2) step a = some b ∧ (rest ≠ [] → txLast p.2 = false ∧ b ≠ first)
        ∧ TxChain m base first step b rest a'

/-- The buffers of the transmit descriptors `descs` end below 2^32 (20_memory R108). -/
def TxBuffersFit (m : Memory) (descs : List (Word × Word)) : Prop :=
  ∀ p ∈ descs, (Memory.read32 m p.1).toNat + txLen p.2 < 2 ^ 32

/-- The bytes of the buffers of the transmit descriptors `descs`, in their order (41_tx_ring R310). -/
def txBytes (m : Memory) (descs : List (Word × Word)) : List Byte :=
  descs.flatMap fun p => Memory.readBytes m (Memory.read32 m p.1).toNat (txLen p.2)

/-- From the address `a` on, a receive ring holds the hardware-owned descriptors `descs`, as `(address, w0)`; the ring
comes back to `first` after the last at the earliest, and `a'` is the address after them (42_rx_ring R352, R360). -/
def RxChain (m : Memory) (base first : Word) (step : Nat) : Word → List (Word × Word) → Word → Prop
  | a, [], a' => a = a'
  | a, p :: rest, a' =>
    p.1 = a ∧ p.2 = Memory.read32 m a ∧ rxOwn p.2 = false
      ∧ ∃ b, nextDesc base (rxWrap p.2) step a = some b ∧ (rest ≠ [] → b ≠ first)
        ∧ RxChain m base first step b rest a'

/-- Memory with a frame's bytes stored in the buffers of its descriptors, `bytes` bytes in each; the first buffer is
filled from the offset `off` on (42_rx_ring R360, R362). -/
def storeOver (bytes : Nat) : Nat → Memory → List (Word × Word) → List Byte → Memory
  | _, m, [], _ => m
  | off, m, p :: rest, l =>
    storeOver bytes 0 (Memory.writeBytes m ((rxAddr p.2).toNat + off) (l.take (bytes - off))) rest (l.drop (bytes - off))

/-- A host store of `n` bytes at `a` touches a slot of a ring, or its buffer, that R706 forbids: the slots run from the
base to the first with WRAP, of a queue that exists and whose QDIS is 0 (log 32), in a direction that is enabled, and this
one is hardware-owned. -/
def TouchesOwned (s : State) (a n : Nat) : Prop :=
  ∃ (d : Dev) (q : Fin 4) (i : Nat), q.val < s.cfg.nQueues d ∧
    let x := s.dev d
    let y := x.queue q
    let txAt (k : Nat) : Nat := y.txBase.toNat + stride (dmacfgTxext x.dmacfg) * k
    let rxAt (k : Nat) : Nat := y.rxBase.toNat + stride (dmacfgRxext x.dmacfg) * k
    let txW0 (k : Nat) : Word := Memory.read32 s.mem (BitVec.ofNat 32 (txAt k))
    let txW1 (k : Nat) : Word := Memory.read32 s.mem (BitVec.ofNat 32 (txAt k + 4))
    let rxW0 (k : Nat) : Word := Memory.read32 s.mem (BitVec.ofNat 32 (rxAt k))
    (ncrTe x.ncr = true ∧ y.txQdis = false ∧ txAt i < 2 ^ 32 ∧ (∀ k < i, (txW1 k).getLsbD 30 = false) ∧ (txW1 i).getLsbD 31 = false
        ∧ (overlaps a n (txAt i) (stride (dmacfgTxext x.dmacfg)) = true
          ∨ overlaps a n (txW0 i).toNat (field (txW1 i) 0 14) = true))
      ∨ (ncrRe x.ncr = true ∧ y.rxQdis = false ∧ rxAt i < 2 ^ 32 ∧ (∀ k < i, (rxW0 k).getLsbD 1 = false) ∧ (rxW0 i).getLsbD 0 = false
        ∧ (overlaps a n (rxAt i) (stride (dmacfgRxext x.dmacfg)) = true
          ∨ overlaps a n (rxW0 i &&& 0xFFFFFFF8#32).toNat (rxBufBytes x q) = true))

end Sys2Proof.Machine

open Sys2Proof Sys2Proof.Machine

/-! ### Encoding -/

/-- Every access decodes back from its encoding, with every device, direction and data word (30_encoding R141, R142; the
transaction word around the key is the model's, log 1). -/
def Obligations.EncodeDecode : Prop := ∀ i : Instr, decode (encode i) = .ok i

/-- Words written out from 30_encoding R141 decode to the accesses they stand for: key bits 14:0 the offset, bit 15 the
direction; the device and data bits are the model's (log 1). -/
def Obligations.DecodeWords : Prop :=
  decode 0x0000000000000000#64 = .ok (.ncrRead .pmac0)
    ∧ decode 0x0000020C00008000#64 = .ok (.ncrWrite .pmac0 0x0000020C#32)
    ∧ decode 0x000800C200018004#64 = .ok (.ncfgr .emac0 (.write 0x000800C2#32))
    ∧ decode 0x0000000000020024#64 = .ok (.isr .pmac1 .read)
    ∧ decode 0x8000200000008480#64 = .ok (.rxqbqpQ1 .pmac0 (.write 0x80002000#32))
    ∧ decode 0x0000000000030154#64 = .ok (.octRxHi .emac1 .read)
    ∧ decode 0x201400010000850C#64 = .ok (.t1_3 .pmac0 (.write 0x20140001#32))
    ∧ decode 0x000001020002875C#64 = .ok (.cmpW1_11 .pmac1 (.write 0x00000102#32))
    ∧ decode 0x00000A0400028800#64 = .ok (.mmslControl .pmac1 (.write 0x00000A04#32))

/-- A transaction decodes exactly when it is 32 bits wide and some row of the opcode table has its offset; what it decodes
to has its key, device and direction, and the data of a write; and at most one row has any offset: accesses of one
device, offset and direction are the same access (30_encoding R141, R142; the transaction word is the model's, log 1). -/
def Obligations.DecodeTable : Prop :=
  (∀ t : BitVec 64, (∃ i, decode t = .ok i) ↔
      t.extractLsb' 18 14 = 0#14 ∧ ∃ i : Instr, i.off = ((keyOf t).extractLsb' 0 15).toNat)
    ∧ (∀ (t : BitVec 64) (i : Instr), decode t = .ok i →
      (encode i).extractLsb' 0 32 = t.extractLsb' 0 32 ∧ i.op = opOf t ∧ i.off = ((keyOf t).extractLsb' 0 15).toNat)
    ∧ ∀ i j : Instr, i.off = j.off → i.dev = j.dev → i.op = j.op → i = j

/-! ### A step runs the decoded access -/

/-- When the next input is a transaction that decodes to `i`, the step is `exec i` with that input taken (30_encoding
R170, R171; log 2); and an access placed where the step fetches its next one is run by the very next step, on the state
it was placed into (logs 1, 2). -/
def Obligations.StepRunsDecoded : Prop :=
  (∀ (s : State) (t : BitVec 64) (rest : List Input) (i : Instr), s.cfg.ok = true → s.inputs = .mmio t :: rest →
      decode t = .ok i → step s = exec i { s with inputs := rest })
    ∧ ∀ (s : State) (i : Instr), s.cfg.ok = true → step (s.withFetchWord 64 (encode i).toNat) = exec i s

/-- What an access means that its transaction does not decode, and one at a bus address. An access of another width, or at
an offset that is no multiple of 4, is refused (20_memory R101). A bus address lies in the first device's 4 KiB window that
holds it: a 32-bit access there, at a multiple of 4, is the access of that device at that offset; an address in no window
is refused (20_memory R100; the order of overlapping windows, the width of an address and the refusal: log 6). Where the
device has no register at the offset, a read returns a free value and changes nothing else, and a write is a fault that
names the offset (30_encoding R143; that the value is the constant Config.unmappedRead of the counter State.draws, which
moves on by one: logs 4 and 11, DESIGN CHOICE). The transaction word: log 1. -/
def Obligations.AccessOutcomes : Prop :=
  (∀ (t : BitVec 64) (s : State),
      let off := ((keyOf t).extractLsb' 0 15).toNat
      (t.extractLsb' 18 14 ≠ 0#14 ∨ off % 4 ≠ 0 → runInput (.mmio t) s = .refused .narrowOrMisalignedAccess)
        ∧ (t.extractLsb' 18 14 = 0#14 →
          runInput (.mmio t) s = runDecoded (decodeAt (Dev.ofCode (t.extractLsb' 16 2)) off (opOf t)) s))
    ∧ (∀ (a : Word) (n : Nat) (op : MmioOp) (s : State),
      let window := [Dev.pmac0, .emac0, .pmac1, .emac1].find? fun d =>
        decide ((Config.base d).toNat ≤ a.toNat ∧ a.toNat < (Config.base d).toNat + 0x1000)
      (window = none → runInput (.bus a n op) s = .refused .noDeviceAtAddress)
        ∧ ∀ d, window = some d →
          let off := a.toNat - (Config.base d).toNat
          (n ≠ 4 ∨ off % 4 ≠ 0 → runInput (.bus a n op) s = .refused .narrowOrMisalignedAccess)
          ∧ (n = 4 → runInput (.bus a n op) s = runDecoded (decodeAt d off op) s
            ∧ ∀ i : Instr, i.dev = d → i.off = off → i.op = op → runInput (.bus a n op) s = exec i s))
    ∧ ∀ (d : Dev) (off : Nat) (s : State), off % 4 = 0 → hasRegister s.cfg d off = false →
      runDecoded (decodeAt d off .read) s
          = .next { s with rdata := Config.unmappedRead s.draws, draws := s.draws + 1 }
        ∧ ∀ v, runDecoded (decodeAt d off (.write v)) s = .fault (.unmappedWrite off)

/-! ### Reset -/

/-- After a hardware reset of any state, and in the initial state, every register that exists reads the value of the reset
column (70_reset R700, R701; 10_state R33); the configuration is one that 00_scope R8 allows. So the accesses of the opcode
table, and so every offset at which the configuration has a register: those of the screener, ethertype and compare registers
beyond the table too, up to 16, 16, 8 and 32 of them (00_scope R7; 10_state R57-R60; that they are reached at their offsets,
without a row of their own: log 8). -/
def Obligations.ResetValues : Prop :=
  (∀ (i : Instr) (s : State), s.cfg.ok = true → i.op = .read → i.wellFormed s.cfg = true →
      ∃ u t, runInput .hwReset s = .next u ∧ exec i u = .next t ∧ t.rdata = resetValue i.off)
    ∧ (∀ i : Instr, i.op = .read → i.wellFormed Config.defaultParams = true →
      ∃ t, exec i State.reset = .next t ∧ t.rdata = resetValue i.off)
    ∧ (∀ (d : Dev) (off : Nat) (s : State), s.cfg.ok = true → off % 4 = 0 → hasRegister s.cfg d off = true →
      ∃ u t, runInput .hwReset s = .next u ∧ runDecoded (decodeAt d off .read) u = .next t ∧ t.rdata = resetValue off)
    ∧ ∀ (c : Params) (d : Dev), c.ok = true →
      (∀ n, n < c.nT1 → hasRegister c d (0x500 + 4 * n) = true) ∧ (∀ n, n < c.nT2 → hasRegister c d (0x540 + 4 * n) = true)
      ∧ (∀ n, n < c.nEth → hasRegister c d (0x6E0 + 4 * n) = true)
      ∧ ∀ n, n < c.nCmp → hasRegister c d (0x700 + 8 * n) = true ∧ hasRegister c d (0x704 + 8 * n) = true

/-- The hidden state and the counters have their reset values in the initial state and after a hardware reset, which
leaves memory and the line alone (70_reset R702); and after reset no engine, tick, line packet or arriving frame changes
anything (a step that is not enabled is passed over with the state unchanged: log 3), and every interrupt line is low
(R703). -/
def Obligations.ResetHidden : Prop :=
  (State.reset.HiddenReset
    ∧ ∀ s : State, ∃ t, runInput .hwReset s = .next t ∧ t.HiddenReset ∧ t.mem = s.mem ∧ t.lineOut = s.lineOut)
    ∧ (∀ d q errs, runInput (.txFetch d q errs) State.reset = .next State.reset)
    ∧ (∀ d q dr, runInput (.txDone d q dr) State.reset = .next State.reset)
    ∧ (∀ m a dr, runInput (.rxFrame m a dr) State.reset = .next State.reset)
    ∧ (∀ d, runInput (.tsuTick d) State.reset = .next State.reset)
    ∧ (∀ m, runInput (.mmRxRespond m) State.reset = .next State.reset
        ∧ runInput (.mmRxVerify m) State.reset = .next State.reset)
    ∧ (∀ d q, (State.reset.dev d).line q = false) ∧ (∀ m, (State.reset.mmsl m).line = false)

/-- Every invariant holds after reset (70_reset R701, R702). -/
def Obligations.InvariantsAtReset : Prop :=
  State.reset.MemoryWf ∧ State.reset.NsInRange ∧ State.reset.PointersAligned ∧ State.reset.RegistersLegal
    ∧ State.reset.TxOrderly ∧ State.reset.MmslLegal

/-! ### Invariants -/

/-- Every step keeps system memory in its canonical form (log 5). -/
def Obligations.StepKeepsMemoryWf : Prop :=
  ∀ s t : State, step s = .next t → s.MemoryWf → t.MemoryWf

/-- After every step `NS < NS_ROLLOVER`: every step keeps it, and a write of TSU_NSEC at or above the threshold is a
fault (44_tsu R463). -/
def Obligations.StepKeepsNanoseconds : Prop :=
  (∀ s t : State, step s = .next t → s.NsInRange → t.NsInRange)
    ∧ ∀ (d : Dev) (v : Word) (s : State), v &&& 0xC0000000#32 = 0 → s.cfg.nsRollover ≤ field v 0 30 →
      exec (.tsuNsec d (.write v)) s = .fault .illegalNanoseconds

/-- Every step keeps bits 2:0 of every ring base and descriptor pointer 0 (10_state R65, R67, R72). -/
def Obligations.StepKeepsPointersAligned : Prop :=
  ∀ s t : State, step s = .next t → s.PointersAligned → t.PointersAligned

/-- Every step keeps every reserved bit 0 and every register at a legal value (30_encoding R145, 10_state R34-R64). -/
def Obligations.StepKeepsRegistersLegal : Prop :=
  ∀ s t : State, step s = .next t → s.RegistersLegal → t.RegistersLegal

/-- Every step keeps the transmit engines in order: at most one frame of a device in flight, nothing active with TE 0, a
halt pending only for a frame in flight, queue 0 enabled and a disabled or absent queue idle (41_tx_ring R300, R303;
40_registers R191; 10_state R38, R66). -/
def Obligations.StepKeepsTxOrderly : Prop :=
  ∀ s t : State, step s = .next t → s.TxOrderly → t.TxOrderly

/-- Every step keeps both MMSLs in a state their rules allow; in particular a machine that verifies can always go on
(45_mmsl R520-R534, 10_state R70). -/
def Obligations.StepKeepsMmslLegal : Prop :=
  ∀ s t : State, step s = .next t → s.MmslLegal → t.MmslLegal

/-! ### The whole register interface -/

/-- A register access changes its own device and the MMSL of its physical MAC only: no other device, MMSL, memory, line,
pending input or parameter (10_state R31); and it sets no interrupt status bit: a queue's status register stays, or it is
the one read and becomes 0 (40_registers R180, R198; log 30). -/
def Obligations.AccessTouchesOneDevice : Prop :=
  ∀ (i : Instr) (s t : State), exec i s = .next t →
    ((∀ d, d ≠ i.dev → t.dev d = s.dev d) ∧ (∀ m, m ≠ macOf i.dev → t.mmsl m = s.mmsl m)
      ∧ t.mem = s.mem ∧ t.lineOut = s.lineOut ∧ t.inputs = s.inputs ∧ t.cfg = s.cfg)
    ∧ ∀ (d : Dev) (q : Fin 4), ((t.dev d).queue q).isr = ((s.dev d).queue q).isr
      ∨ (((t.dev d).queue q).isr = 0 ∧ i = isrAccess q d .read)

/-- A read of a register that is not COR returns a value and changes nothing (20_memory R102, R120; 40_registers R181); a
write to a register whose only implemented fields are RO or COR is ignored (40_registers R183). -/
def Obligations.AccessKinds : Prop :=
  (∀ (i : Instr) (s : State), s.cfg.ok = true → i.op = .read → i.wellFormed s.cfg = true → isCor i.off = false →
      ∃ v, exec i s = .next { s with rdata := v })
    ∧ ∀ (i : Instr) (v : Word) (s : State), s.cfg.ok = true → i.op = .write v → i.wellFormed s.cfg = true →
      isReadOnly i.off = true → exec i s = .next s

/-- The interrupt lines: a queue's line, and the MMSL's of a pMAC, is 1 exactly where an implemented status bit is 1 and not
masked (60_exceptions R662). The host ends an interrupt by reading the status register, which clears every bit, or by
masking it, which keeps the status; an event after the read that is not masked raises the line again (R668; 40_registers
R198, R225, R226): of the MMSL, a step that changes VSTAT, by a write of MMSL_CONTROL too (log 30), or a frame that fails
reassembly (45_mmsl R534). -/
def Obligations.InterruptReturn : Prop :=
  (∀ (d : Dev) (q : Fin 4) (s : State), q.val < s.cfg.nQueues d →
    let y := (s.dev d).queue q
    let impl : Word := if q = 0 then 0x07FC0CFE#32 else 0x000008FE#32
    ((s.dev d).line q = true ↔ y.isr &&& ~~~y.imr &&& impl ≠ 0)
      ∧ (∃ t, exec (isrAccess q d .read) s = .next t ∧ t.rdata = y.isr ∧ (t.dev d).line q = false
        ∧ ∀ bits, bits &&& ~~~y.imr &&& impl ≠ 0 → ((t.dev d).irq q bits).line q = true)
      ∧ ∃ t, exec (idrAccess q d (.write 0xFFFFFFFF#32)) s = .next t ∧ (t.dev d).line q = false
        ∧ ((t.dev d).queue q).isr = y.isr)
  ∧ ∀ (d : Dev) (s : State), d.hasMmsl = true →
    let m := macOf d
    let y := s.mmsl m
    (y.line = true ↔ y.intStatus &&& ~~~y.intMask &&& 3#32 ≠ 0)
      ∧ (∃ t, exec (.mmslIntStatus d .read) s = .next t ∧ t.rdata = y.intStatus ∧ (t.mmsl m).line = false
        ∧ (∀ i u, i ≠ .hwReset → runInput i t = .next u → (u.mmsl m).vstat ≠ y.vstat → y.intMask.getLsbD 0 = false →
          (u.mmsl m).line = true)
        ∧ ∀ a dr, a.cls = .preemptable → a.aerr = true → arrivalOffered a y = true → ncrLbLocal (s.dev d).ncr = false →
          rxDrawsInSet dr (s.cfg.nQueues d) = true → y.intMask.getLsbD 1 = false →
          ∃ u, runInput (.rxFrame m a dr) t = .next u ∧ (u.mmsl m).line = true)
      ∧ ∃ t, exec (.mmslIntDis d (.write 0xFFFFFFFF#32)) s = .next t ∧ (t.mmsl m).line = false
        ∧ (t.mmsl m).intStatus = y.intStatus

/-! ### Register results -/

/-- NCR: a read returns the stored bits (40_registers R190); a write with a reserved bit is a fault; any other write acts
as R191 says, in its order: transmit disable, receive disable, CLRSTAT, TSTART, THALT, the stored bits. That the fault
names all the reserved bits written: log 20. -/
def Obligations.NcrAccess : Prop :=
  ∀ (d : Dev) (s : State),
    exec (.ncrRead d) s = .next { s with rdata := (s.dev d).ncr }
      ∧ (∀ v, v &&& ncrRsvd ≠ 0 → exec (.ncrWrite d v) s = .fault (.reservedBitWritten 0x000 (v &&& ncrRsvd)))
      ∧ ∀ v, v &&& ncrRsvd = 0 → ∃ y,
        exec (.ncrWrite d v) s = .next (s.setDev d y)
          ∧ let x := s.dev d
            let txOff := ncrTe x.ncr && !ncrTe v
            let rxOff := ncrRe x.ncr && !ncrRe v
            let start := ncrTStart v && ncrTe v
            let idle := txOff || x.idleInflight
            (∀ q, y.queue q =
              { x.queue q with
                txActive := !(ncrTHalt v && idle)
                  && (((x.queue q).txActive && !txOff) || (start && !(x.queue q).txQdis))
                inflight := if txOff then none else (x.queue q).inflight
                txCur := if txOff then (x.queue q).txBase else (x.queue q).txCur
                rxCur := if rxOff then (x.queue q).rxBase else (x.queue q).rxCur })
            ∧ y.haltReq = ((ncrTHalt v && !idle) || (x.haltReq && !txOff && !start))
            ∧ y = { (if ncrClrStat v then
                  { x with stats := .replicate 42 0, octTx := 0, octRx := 0, octTxShadow := 0, octRxShadow := 0 }
                else x) with
                ncr := v &&& 0x0910001E#32, queues := y.queues, haltReq := y.haltReq }

/-- NCFGR, DMACFG, JML, STACKED_VLAN and TSU_NSEC: a read returns the register; a write of reserved bits, a hard-wired
bit, receive checksum offload, a mode change of an enabled direction or an illegal value stops as its rule says; any
other write stores (40_registers R192, R193, R202, R207, R213; the order of the checks: log 19, one fault for all the
reserved bits: log 20). -/
def Obligations.CheckedRegisters : Prop :=
  ∀ (d : Dev) (s : State),
    (exec (.ncfgr d .read) s = .next { s with rdata := (s.dev d).ncfgr }
      ∧ ∀ v, exec (.ncfgr d (.write v)) s =
        if v &&& 0xFA803A00#32 ≠ 0 then .fault (.reservedBitWritten 0x004 (v &&& 0xFA803A00#32))
        else if v.getLsbD 24 then .refused .rxChecksumOffload
        else .next (s.setDev d { s.dev d with ncfgr := v }))
    ∧ (exec (.dmacfg d .read) s = .next { s with rdata := (s.dev d).dmacfg }
      ∧ ∀ v, exec (.dmacfg d (.write v)) s =
        if v &&& 0x8F00F720#32 ≠ 0 then .fault (.reservedBitWritten 0x010 (v &&& 0x8F00F720#32))
        else if v &&& 0x400000C0#32 ≠ 0 then .refused .hardwiredBitWritten
        else if (ncrRe (s.dev d).ncr ∧ v.getLsbD 28 ≠ (s.dev d).dmacfg.getLsbD 28)
            ∨ (ncrTe (s.dev d).ncr ∧ v.getLsbD 29 ≠ (s.dev d).dmacfg.getLsbD 29) then .fault .modeChangeWhileEnabled
        else .next (s.setDev d { s.dev d with dmacfg := v }))
    ∧ (exec (.jml d .read) s = .next { s with rdata := (s.dev d).jml }
      ∧ ∀ v, exec (.jml d (.write v)) s =
        if v &&& 0xFFFFC000#32 ≠ 0 then .fault (.reservedBitWritten 0x048 (v &&& 0xFFFFC000#32))
        else if field v 0 14 < 64 ∨ Config.jumboLimit < field v 0 14 then .fault .illegalJumboLength
        else .next (s.setDev d { s.dev d with jml := v }))
    ∧ (exec (.stackedVlan d .read) s = .next { s with rdata := (s.dev d).stackedVlan }
      ∧ ∀ v, exec (.stackedVlan d (.write v)) s =
        if v &&& 0xFFFC0000#32 ≠ 0 then .fault (.reservedBitWritten 0x0C0 (v &&& 0xFFFC0000#32))
        else if field v 16 2 = 3 then .fault .illegalVlanDepth
        else .next (s.setDev d { s.dev d with stackedVlan := v }))
    ∧ (exec (.tsuNsec d .read) s = .next { s with rdata := (s.dev d).tsu.ns.setWidth 32 }
      ∧ ∀ v, exec (.tsuNsec d (.write v)) s =
        if v &&& 0xC0000000#32 ≠ 0 then .fault (.reservedBitWritten 0x1D4 (v &&& 0xC0000000#32))
        else if s.cfg.nsRollover ≤ field v 0 30 then .fault .illegalNanoseconds
        else .next (s.setDev d
          { s.dev d with tsu := { (s.dev d).tsu with ns := v.extractLsb' 0 30, acc := 0 } }))

/-- TSR and RSR: a read returns the stored bits, TSR with TXGO, which is 1 exactly when a queue is active or has a frame
in flight; a write clears the written-1 bits and ignores the others (40_registers R194, R197; 41_tx_ring R301). MODULE_ID
reads the parameter and the PTP event registers what was last captured; writes leave them unchanged (40_registers R209,
R215). -/
def Obligations.StatusAndReadOnlyRegisters : Prop :=
  ∀ (d : Dev) (s : State),
    ((∃ go : Bool,
      (go = true ↔ ∃ q, ((s.dev d).queue q).txActive = true ∨ ((s.dev d).queue q).inflight.isSome = true)
        ∧ exec (.tsr d .read) s = .next { s with rdata := ((s.dev d).tsr &&& 0x1F7#32) ||| (if go then 8#32 else 0) })
      ∧ (∀ v, exec (.tsr d (.write v)) s
          = .next (s.setDev d { s.dev d with tsr := (s.dev d).tsr &&& ~~~(v &&& 0x1F7#32) }))
      ∧ exec (.rsr d .read) s = .next { s with rdata := (s.dev d).rsr }
      ∧ ∀ v, exec (.rsr d (.write v)) s
          = .next (s.setDev d { s.dev d with rsr := (s.dev d).rsr &&& ~~~(v &&& 0xF#32) }))
    ∧ exec (.moduleId d .read) s = .next { s with rdata := Config.moduleId }
    ∧ (∀ v, exec (.moduleId d (.write v)) s = .next s)
    ∧ ∀ r ∈ ptpRegs, exec (r.1 d .read) s = .next { s with rdata := r.2 (s.dev d).ptp }
      ∧ ∀ v, exec (r.1 d (.write v)) s = .next s

/-- The queue pointers: a read returns the current pointer and QDIS; a write while the direction is enabled is a fault, a
disable of queue 0 is refused, reserved bits are a fault, and any other write sets base, current pointer and QDIS
(40_registers R195, R196; 70_reset R711; the order of the three checks: log 18; that the fault names all the reserved
bits written: log 20). -/
def Obligations.QueuePointers : Prop :=
  ∀ (d : Dev) (q : Fin 4) (s : State), q.val < s.cfg.nQueues d →
    (exec (txPtrAccess q d .read) s = .next { s with rdata :=
        (((s.dev d).queue q).txCur &&& 0xFFFFFFF8#32) ||| (if ((s.dev d).queue q).txQdis then 1 else 0) }
      ∧ ∀ v, exec (txPtrAccess q d (.write v)) s =
        if ncrTe (s.dev d).ncr then .fault .queuePointerWriteWhileEnabled
        else if q = 0 ∧ v.getLsbD 0 then .refused .queue0Disable
        else if v &&& 6#32 ≠ 0 then .fault (.reservedBitWritten (txPtrOff q) (v &&& 6#32))
        else .next (s.setDev d ((s.dev d).setQueue q
          { (s.dev d).queue q with
            txBase := v &&& 0xFFFFFFF8#32, txCur := v &&& 0xFFFFFFF8#32, txQdis := v.getLsbD 0 })))
    ∧ (exec (rxPtrAccess q d .read) s = .next { s with rdata :=
        (((s.dev d).queue q).rxCur &&& 0xFFFFFFF8#32) ||| (if ((s.dev d).queue q).rxQdis then 1 else 0) }
      ∧ ∀ v, exec (rxPtrAccess q d (.write v)) s =
        if ncrRe (s.dev d).ncr then .fault .queuePointerWriteWhileEnabled
        else if q = 0 ∧ v.getLsbD 0 then .refused .queue0Disable
        else if v &&& 6#32 ≠ 0 then .fault (.reservedBitWritten (rxPtrOff q) (v &&& 6#32))
        else .next (s.setDev d ((s.dev d).setQueue q
          { (s.dev d).queue q with
            rxBase := v &&& 0xFFFFFFF8#32, rxCur := v &&& 0xFFFFFFF8#32, rxQdis := v.getLsbD 0 })))

/-- The interrupt registers of a queue: the status register is cleared by its read, the enable and disable registers
read 0 and change implemented mask bits only, and the mask register returns the mask (40_registers R198-R201). -/
def Obligations.InterruptRegisters : Prop :=
  ∀ (d : Dev) (q : Fin 4) (s : State), q.val < s.cfg.nQueues d →
    let x := s.dev d
    let y := x.queue q
    let impl : Word := if q = 0 then 0x07FC0CFE#32 else 0x000008FE#32
    exec (isrAccess q d .read) s = .next { s.setDev d (x.setQueue q { y with isr := 0 }) with rdata := y.isr }
      ∧ (∀ v, exec (isrAccess q d (.write v)) s = .next s)
      ∧ exec (ierAccess q d .read) s = .next { s with rdata := 0 }
      ∧ (∀ v, exec (ierAccess q d (.write v)) s
          = .next (s.setDev d (x.setQueue q { y with imr := y.imr &&& ~~~(v &&& impl) })))
      ∧ exec (idrAccess q d .read) s = .next { s with rdata := 0 }
      ∧ (∀ v, exec (idrAccess q d (.write v)) s
          = .next (s.setDev d (x.setQueue q { y with imr := y.imr ||| (v &&& impl) })))
      ∧ exec (imrAccess q d .read) s = .next { s with rdata := y.imr }
      ∧ ∀ v, exec (imrAccess q d (.write v)) s = .next s

/-- The plain RW registers read what they store and store what is written outside their reserved bits; a write of a reserved
bit is a fault, which names all of them that were written (log 20). First the hash, specific-address, type-ID, PTP unicast,
capture mode and TSU registers of every device (40_registers R203-R206, R208, R210-R212, R214, R217); then the receive
buffer sizes and the screener, ethertype and compare registers that exist (R216, R218-R221). Of the last four families a
configuration may have more than the opcode table lists, up to 16, 16, 8 and 32 (00_scope R7): every one that exists does
so at its offset (10_state R57-R60; log 8). -/
def Obligations.StoredRegisters : Prop :=
  (∀ r ∈ plainRegs, ∀ (d : Dev) (s : State), r.Works d s)
    ∧ (∀ p ∈ rxBufRegs.zipIdx, ∀ (d : Dev) (s : State), p.2 + 1 < s.cfg.nQueues d → p.1.Works d s)
    ∧ (∀ p ∈ screenerRegs, ∀ (d : Dev) (s : State), p.2.1 < p.1 s.cfg → p.2.2.Works d s)
    ∧ ∀ (d : Dev) (s : State),
      (∀ n : Fin 16, n.val < s.cfg.nT1 →
        WorksAt d (0x500 + 4 * n.val) 0x80000000#32 (·.t1[n]) (fun v x => { x with t1 := x.t1.set n v }) s)
      ∧ (∀ n : Fin 16, n.val < s.cfg.nT2 →
        WorksAt d (0x540 + 4 * n.val) 0x00000080#32 (·.t2[n]) (fun v x => { x with t2 := x.t2.set n v }) s)
      ∧ (∀ n : Fin 8, n.val < s.cfg.nEth →
        WorksAt d (0x6E0 + 4 * n.val) 0xFFFF0000#32 (·.ethtype[n])
          (fun v x => { x with ethtype := x.ethtype.set n v }) s)
      ∧ ∀ n : Fin 32, n.val < s.cfg.nCmp →
        WorksAt d (0x700 + 8 * n.val) 0 (·.cmpW0[n]) (fun v x => { x with cmpW0 := x.cmpW0.set n v }) s
        ∧ WorksAt d (0x704 + 8 * n.val) 0xFFFFFC00#32 (·.cmpW1[n])
          (fun v x => { x with cmpW1 := x.cmpW1.set n v }) s

/-- Each 32-bit statistics counter returns its value and is cleared by its read; a write is ignored (40_registers R188,
R183; 46_statistics R563-R580, R583-R606). The octet pairs: a read of the low register returns bits 31:0, moves bits 47:32
to the shadow and clears the counter; a read of the high register returns the shadow and clears it; so the two reads return
the whole count (46_statistics R561, R562, R581, R582). A line event counts its counter by one where the line may report
it: the pause, symbol, alignment and flush counters always, the deferral and carrier-sense counters in half duplex; any
other is passed over (R607; log 3). -/
def Obligations.StatisticsCounters : Prop :=
  (∀ (c : Stat) (d : Dev) (s : State),
    exec (statAccess c d .read) s
        = .next { s.setDev d { s.dev d with stats := (s.dev d).stats.set (statIndex c) 0 } with
            rdata := (s.dev d).stats[statIndex c] }
      ∧ ∀ v, exec (statAccess c d (.write v)) s = .next s)
  ∧ (∀ (d : Dev) (s : State),
    let x := s.dev d
    (exec (.octTxLo d .read) s = .next { s.setDev d
          { x with octTxShadow := x.octTx.extractLsb' 32 16, octTx := 0 } with rdata := x.octTx.extractLsb' 0 32 }
        ∧ exec (.octTxHi d .read) s
            = .next { s.setDev d { x with octTxShadow := 0 } with rdata := x.octTxShadow.setWidth 32 }
        ∧ exec (.octRxLo d .read) s = .next { s.setDev d
          { x with octRxShadow := x.octRx.extractLsb' 32 16, octRx := 0 } with rdata := x.octRx.extractLsb' 0 32 }
        ∧ exec (.octRxHi d .read) s
            = .next { s.setDev d { x with octRxShadow := 0 } with rdata := x.octRxShadow.setWidth 32 })
      ∧ (∀ v, exec (.octTxLo d (.write v)) s = .next s ∧ exec (.octTxHi d (.write v)) s = .next s
          ∧ exec (.octRxLo d (.write v)) s = .next s ∧ exec (.octRxHi d (.write v)) s = .next s)
      ∧ (∃ t u, exec (.octTxLo d .read) s = .next t ∧ exec (.octTxHi d .read) t = .next u
        ∧ (s.dev d).octTx.toNat = u.rdata.toNat * 2 ^ 32 + t.rdata.toNat)
      ∧ ∃ t u, exec (.octRxLo d .read) s = .next t ∧ exec (.octRxHi d .read) t = .next u
        ∧ (s.dev d).octRx.toNat = u.rdata.toNat * 2 ^ 32 + t.rdata.toNat)
  ∧ ∀ (d : Dev) (c : Stat) (s : State),
    let x := s.dev d
    (c ∈ [Stat.pauseTx, .pauseRx, .symbolErrorsRx, .alignmentErrorsRx, .autoFlushedRx]
        ∨ (c ∈ [Stat.deferredTx, .crsErrors] ∧ ncfgrFd x.ncfgr = false) →
      runInput (.lineEvent d c) s
        = .next (s.setDev d { x with stats := x.stats.set (statIndex c) (bump x.stats[statIndex c] 1) }))
    ∧ (¬ (c ∈ [Stat.pauseTx, .pauseRx, .symbolErrorsRx, .alignmentErrorsRx, .autoFlushedRx]
        ∨ (c ∈ [Stat.deferredTx, .crsErrors] ∧ ncfgrFd x.ncfgr = false)) →
      runInput (.lineEvent d c) s = .next s)

/-- MMSL_CONTROL on a pMAC: a read returns the stored fields; a write of reserved bits or of a VTIME outside 1 to 128 is a
fault; any other write stores the fields, stops verification where PEN falls or VDIS rises, and starts it where verified
preemption begins or RSTVER asks for it; VCHG is set when the state differs (40_registers R222; 45_mmsl R527, R528; that
the fault names all the reserved bits written: log 20; that a register write may set VCHG: log 30). -/
def Obligations.MmslControlWrite : Prop :=
  ∀ (d : Dev) (s : State), d.hasMmsl = true →
    exec (.mmslControl d .read) s = .next { s with rdata := (s.mmsl (macOf d)).control }
      ∧ (∀ v, v &&& 0xFFFF00C0#32 ≠ 0 →
        exec (.mmslControl d (.write v)) s = .fault (.reservedBitWritten 0x800 (v &&& 0xFFFF00C0#32)))
      ∧ (∀ v, v &&& 0xFFFF00C0#32 = 0 → mmVtime v = 0 ∨ 128 < mmVtime v →
        exec (.mmslControl d (.write v)) s = .fault .illegalVerifyTime)
      ∧ ∀ v, v &&& 0xFFFF00C0#32 = 0 → 1 ≤ mmVtime v → mmVtime v ≤ 128 →
        let m := s.mmsl (macOf d)
        let start := mmPen v && !mmVdis v && (!mmPen m.control || mmVdis m.control || mmRstVer v)
        let stop := (mmPen m.control && !mmPen v) || (!mmVdis m.control && mmVdis v && m.vstat != .idle)
        let vstat := if start then .verifying else if stop then .idle else m.vstat
        exec (.mmslControl d (.write v)) s = .next (s.setMmsl (macOf d)
          { m with
            control := v &&& 0x0000FF3D#32
            vstat := vstat
            vcount := if start || stop then 0 else m.vcount
            waiting := m.waiting && !start && !stop
            intStatus := if vstat = m.vstat then m.intStatus else m.intStatus ||| 1#32 })

/-- The other MMSL registers of a pMAC: the status reads PACTIVE and VSTAT, the counters and the interrupt status are
cleared by their reads, the enable and disable registers read 0 and change the two mask bits, and the mask register
returns the mask (40_registers R223-R226; 45_mmsl R536). -/
def Obligations.MmslRegisters : Prop :=
  ∀ (d : Dev) (s : State), d.hasMmsl = true →
    let m := s.mmsl (macOf d)
    let pactive := mmPen m.control && (mmVdis m.control || m.vstat == .succeeded)
    exec (.mmslStatus d .read) s
        = .next { s with rdata := (if pactive then 4#32 else 0) ||| m.vstat.code.setWidth 32 }
      ∧ (∀ v, exec (.mmslStatus d (.write v)) s = .next s)
      ∧ (∀ r ∈ mmslCorRegs,
        exec (r.1 d .read) s = .next { s.setMmsl (macOf d) (r.2.2 m) with rdata := r.2.1 m }
          ∧ ∀ v, exec (r.1 d (.write v)) s = .next s)
      ∧ exec (.mmslIntEn d .read) s = .next { s with rdata := 0 }
      ∧ (∀ v, exec (.mmslIntEn d (.write v)) s
          = .next (s.setMmsl (macOf d) { m with intMask := m.intMask &&& ~~~(v &&& 3#32) }))
      ∧ exec (.mmslIntDis d .read) s = .next { s with rdata := 0 }
      ∧ (∀ v, exec (.mmslIntDis d (.write v)) s
          = .next (s.setMmsl (macOf d) { m with intMask := m.intMask ||| (v &&& 3#32) }))
      ∧ exec (.mmslIntMask d .read) s = .next { s with rdata := m.intMask }
      ∧ ∀ v, exec (.mmslIntMask d (.write v)) s = .next s

/-! ### The time stamp unit -/

/-- A tick: the sub-nanosecond sum carries into the nanoseconds, which roll over into the seconds with TSU_SRI
(44_tsu R462). The 30 bits of NS must hold the threshold. -/
def Obligations.TsuTickResult : Prop :=
  ∀ (d : Dev) (s : State), 511 < s.cfg.nsRollover → s.cfg.nsRollover ≤ 2 ^ 30 →
    (s.dev d).tsu.ns.toNat < s.cfg.nsRollover →
    let x := s.dev d
    let t := x.tsu.acc.toNat + field x.tsu.subInc 0 24
    let n := x.tsu.ns.toNat + field x.tsu.inc 0 8 + t / 2 ^ 24
    ∃ ns : BitVec 30,
      (n < s.cfg.nsRollover → ns.toNat = n ∧ runInput (.tsuTick d) s
        = .next (s.setDev d { x with tsu := { x.tsu with acc := BitVec.ofNat 24 t, ns := ns } }))
      ∧ (s.cfg.nsRollover ≤ n → ns.toNat = n - s.cfg.nsRollover ∧ runInput (.tsuTick d) s
        = .next (s.setDev d
            ({ x with tsu := { x.tsu with acc := BitVec.ofNat 24 t, ns := ns, sec := x.tsu.sec + 1 } }.setQueue 0
              { x.queue 0 with isr := (x.queue 0).isr ||| 0x04000000#32 })))

/-- Between host writes to TSU_SEC_HI, TSU_SEC_LO and TSU_NSEC, and resets, the TSU value never decreases, and a tick
adds NSINC or one more, where the seconds do not wrap (44_tsu R464). -/
def Obligations.TsuNeverDecreases : Prop :=
  ∀ (i : Input) (s t : State) (d : Dev), s.cfg.ok = true → s.cfg.nsRollover ≤ 2 ^ 30 → s.NsInRange →
    (s.dev d).tsu.sec ≠ BitVec.allOnes 64 → writesTsu d i = false → i ≠ .hwReset → runInput i s = .next t →
    (i = .tsuTick d → tsuTotal t d = tsuTotal s d + field (s.dev d).tsu.inc 0 8
        ∨ tsuTotal t d = tsuTotal s d + field (s.dev d).tsu.inc 0 8 + 1)
      ∧ (i ≠ .tsuTick d → tsuTotal t d = tsuTotal s d)

/-! ### The transmit engine -/

/-- Which transmit steps are taken; every other is passed over with the state unchanged (log 3). TX_FETCH needs a queue that
exists, TE at 1, the queue active and no frame in flight at any queue of the device (41_tx_ring R300, R303, R310). TX_DONE
needs a frame in flight (R320) and draws in their sets: the outcome, where it is drawn, one of Outcomes(d) (R322) or, in
local loopback, OK(0) or UND (R333); the fragments of a delivered preemptable frame at least one and at most those of R538
(in local loopback too: log 22); and the route draw of a receiver a queue that exists (43_classifier R420). The duplex mode
and the loopback are those of the configuration at the fetch (log 17). -/
def Obligations.TxStepsEnabled : Prop :=
  (∀ (d : Dev) (q : Fin 4) (errs : List Nat) (s : State),
    let x := s.dev d
    (txFetchEnabled s.cfg d q x = true ↔
        q.val < s.cfg.nQueues d ∧ ncrTe x.ncr = true ∧ (x.queue q).txActive = true ∧ ∀ p, (x.queue p).inflight = none)
      ∧ (txFetchEnabled s.cfg d q x = false → runInput (.txFetch d q errs) s = .next s))
  ∧ ∀ (d : Dev) (q : Fin 4) (dr : TxDraws) (s : State),
    (((s.dev d).queue q).inflight = none → runInput (.txDone d q dr) s = .next s)
    ∧ ∀ fr : TxFrame, ((s.dev d).queue q).inflight = some fr →
      let n := (txImage (s.dev d) fr).frame.length
      let half := ncfgrFd fr.conf.ncfgr = false ∧ ncrLbLocal fr.conf.ncr = false
      (txDrawsInSet dr s d fr n = true ↔
        (fr.und = false → fr.buserr = false → dr.outcome = .und ∨ dr.outcome = .ok 0
          ∨ (half ∧ (dr.outcome = .lco ∨ dr.outcome = .rle ∨ ∃ c ≤ 15, dr.outcome = .ok c)))
        ∧ (outcomeIsOk (txOutcome fr dr.outcome) = true → txClass s d = .preemptable →
          1 ≤ dr.frags ∧ dr.frags ≤ max 1 (n / (64 * (1 + field (s.mmsl (macOf d)).control 4 2))))
        ∧ ∀ r, dr.loop.route = some r → r < s.cfg.nQueues d)
      ∧ (txDrawsInSet dr s d fr n = false → runInput (.txDone d q dr) s = .next s)

/-- The fetch of a frame of one or more descriptors takes a snapshot of its buffers, in descriptor order, and advances the
pointer behind the last (41_tx_ring R310, R314); nothing else changes. A frame of no bytes, or one longer on the wire than
the maximum, is a fault (R313). The configuration kept with the frame is that of this step (70_reset R705, R716; log 17);
the walk is bounded by the descriptors that fit in memory (log 14). -/
def Obligations.TxFetchFrame : Prop :=
  ∀ (d : Dev) (q : Fin 4) (errs : List Nat) (s : State) (h : Word × Word) (rest : List (Word × Word)) (a' : Word),
    NoBusErr errs s.cfg → txFetchEnabled s.cfg d q (s.dev d) = true →
    let x := s.dev d
    let cur := (x.queue q).txCur
    TxChain s.mem (x.queue q).txBase cur (stride (dmacfgTxext x.dmacfg)) cur (h :: rest) a' →
    TxBuffersFit s.mem (h :: rest) → (∀ z ∈ (h :: rest).getLast?, txLast z.2 = true) → rest.length < 2 ^ 29 →
    let data := txBytes s.mem (h :: rest)
    let wire := if txNoCrc h.2 then data.length else max data.length 60 + 4
    let limit := if ncfgrJumbo x.ncfgr then field x.jml 0 14 else 1536
    runInput (.txFetch d q errs) s =
      if data.length = 0 then .fault .txZeroLength
      else if limit < wire then .fault .txFrameTooLong
      else .next (s.setDev d (x.setQueue q
        { x.queue q with
          txCur := a'
          inflight := some ⟨h :: rest, data, txNoCrc h.2, false, false, x.txConf⟩ }))

/-- How a fetch ends without a whole frame. A software-owned descriptor at the frame's start sets TSR.UBR and the queue's
TXUBR, and the queue goes inactive (41_tx_ring R312). One inside the frame aborts it as an underrun, with the pointer on
it (R316). Descriptors that come round to the first without LAST are a fault (R310; log 14). Memory and everything not
named stay. The configuration kept with a frame is that of this step (log 17). Bus errors are those of TxFetchBusErrors. -/
def Obligations.TxFetchStops : Prop :=
  ∀ (d : Dev) (q : Fin 4) (errs : List Nat) (s : State), NoBusErr errs s.cfg →
    txFetchEnabled s.cfg d q (s.dev d) = true →
    let x := s.dev d
    let cur := (x.queue q).txCur
    (txUsed (Memory.read32 s.mem (cur + 4)) = true →
      runInput (.txFetch d q errs) s = .next (s.setDev d
        ({ x with tsr := x.tsr ||| 1#32 }.setQueue q
          { x.queue q with isr := (x.queue q).isr ||| 8#32, txActive := false })))
    ∧ ∀ (h : Word × Word) (rest : List (Word × Word)) (a' : Word),
      TxChain s.mem (x.queue q).txBase cur (stride (dmacfgTxext x.dmacfg)) cur (h :: rest) a' →
      TxBuffersFit s.mem (h :: rest) → (∀ z ∈ (h :: rest).getLast?, txLast z.2 = false) → rest.length < 2 ^ 29 →
      (a' ≠ cur → txUsed (Memory.read32 s.mem (a' + 4)) = true →
        runInput (.txFetch d q errs) s = .next (s.setDev d (x.setQueue q
          { x.queue q with
            txCur := a'
            inflight := some ⟨h :: rest, txBytes s.mem (h :: rest), txNoCrc h.2, true, false, x.txConf⟩ })))
      ∧ (a' = cur → runInput (.txFetch d q errs) s = .fault .txNoLastBuffer)

/-- How a bus error ends a fetch, at any access of it: `before` are the descriptors read whole, `k` is the first access that
fails, and accesses are numbered as in log 12, so that the ownership word after `before` is access `n`. On a descriptor
word, at the frame's start or inside it, TSR.HRESP and the queue's HRESP are set, the queue goes inactive, and the pointer,
memory and everything else stay (41_tx_ring R324 (a)). On a byte of the buffer of descriptor `h`, the descriptors go on
being read, two accesses each, and no more data (R324 (b)): at LAST the frame is in flight as a bus error with the bytes of
`before` only, its buffer ends and its length not looked at; at a software-owned descriptor it is one and an underrun too
(R310, R316); round to the first without LAST is a fault (R310; log 14); and a second bus error, on a word of a later
descriptor, ends the fetch as above. The walk is bounded by the descriptors that fit in memory (log 14); the configuration
kept with a frame is that of this step (log 17). -/
def Obligations.TxFetchBusErrors : Prop :=
  ∀ (d : Dev) (q : Fin 4) (errs : List Nat) (s : State) (before : List (Word × Word)) (a : Word) (k : Nat),
    s.cfg.holes = [] → k ∈ errs → (∀ j ∈ errs, k ≤ j) → txFetchEnabled s.cfg d q (s.dev d) = true →
    let x := s.dev d
    let cur := (x.queue q).txCur
    let chain := TxChain s.mem (x.queue q).txBase cur (stride (dmacfgTxext x.dmacfg)) cur
    let n := (before.map fun p => txLen p.2 + 2).sum
    let used (b : Word) : Bool := txUsed (Memory.read32 s.mem (b + 4))
    let stopped := runInput (.txFetch d q errs) s = .next (s.setDev d
      ({ x with tsr := x.tsr ||| 0x100#32 }.setQueue q
        { x.queue q with isr := (x.queue q).isr ||| 0x800#32, txActive := false }))
    chain before a → (∀ p ∈ before, txLast p.2 = false) → TxBuffersFit s.mem before → before.length < 2 ^ 29 →
    (before = [] ∨ a ≠ cur → k = n ∨ (k = n + 1 ∧ used a = false) → stopped)
    ∧ ∀ (h : Word × Word) (after : List (Word × Word)) (a' : Word),
      let descs := before ++ h :: after
      let stop := n + 2 + txLen h.2 + 2 * after.length
      chain descs a' → TxBuffersFit s.mem [h] → descs.length < 2 ^ 29 →
      n + 2 ≤ k → k < n + 2 + txLen h.2 → (∀ j ∈ errs, j < n + 2 + txLen h.2 ∨ stop ≤ j) →
      let marked := fun (und : Bool) => runInput (.txFetch d q errs) s = .next (s.setDev d (x.setQueue q
        { x.queue q with
          txCur := a'
          inflight := some ⟨descs, txBytes s.mem before, descs.head?.any fun p => txNoCrc p.2, und, true, x.txConf⟩ }))
      if descs.getLast?.any (fun p => txLast p.2) then marked false
      else if a' = cur then runInput (.txFetch d q errs) s = .fault .txNoLastBuffer
      else (stop ∈ errs ∨ (used a' = false ∧ stop + 1 ∈ errs) → stopped)
        ∧ (stop ∉ errs → used a' = true → marked true)

/-- A frame that is not delivered: its TSR, interrupt and counter as its outcome says, TXCOMP and TCOMP, its descriptors
returned with its error bit in the first, nothing on the line, and no frame in flight (41_tx_ring R322, R330, R331). -/
def Obligations.TxFailureReported : Prop :=
  ∀ row ∈ failures, ∀ (d : Dev) (q : Fin 4) (dr : TxDraws) (s : State) (fr : TxFrame) (a w : Word)
    (rest : List (Word × Word)), NoBusErr dr.errs s.cfg → ((s.dev d).queue q).inflight = some fr →
    fr.descs = (a, w) :: rest → txOutcome fr dr.outcome = row.1 → (s.dev d).haltReq = false →
    txDrawsInSet dr s d fr (txImage (s.dev d) fr).frame.length = true →
    let x := s.dev d
    runInput (.txDone d q dr) s = .next
      { s.setDev d ({ x with
            tsr := x.tsr ||| row.2.1 ||| 0x20#32
            stats := match row.2.2.2.2 with
              | some c => x.stats.set (statIndex c) (bump x.stats[statIndex c] 1)
              | none => x.stats }.setQueue q
          { x.queue q with isr := (x.queue q).isr ||| row.2.2.1 ||| 0x80#32, inflight := none }) with
        mem := Memory.writeWords s.mem
          (rest.map (fun p => (p.1 + 4, p.2 ||| 0x80000000#32))
            ++ [(a + 4, (w &&& 0x400FFFFF#32) ||| row.2.2.2.1 ||| 0x80000000#32)]) }

/-- A frame that is delivered goes to the line once, as its image and in its class (41_tx_ring R323, R327; 45_mmsl R537),
or in local loopback to its own receiver (R333). Its descriptors return with no error bit, the first one last, with the
checksum code and, where it is captured, the timestamp (R330; 44_tsu R477; 30_encoding R149). TXCOMP and TCOMP are set;
an event message is recorded (44_tsu R482); the frame's counters and the fragment counter count it (R331; 45_mmsl R542);
a halt that waits takes hold (R332); no frame is in flight. The image, the capture mode and the loopback are those of the
configuration at the fetch (logs 17, 23); the fragments of a looped back frame are counted too (log 22), a frame under six
bytes is no broadcast (log 27), and a timestamp may end at the last byte of memory (log 31). -/
def Obligations.TxDelivered : Prop :=
  ∀ (d : Dev) (q : Fin 4) (dr : TxDraws) (s : State) (fr : TxFrame) (a w : Word) (rest : List (Word × Word)) (c : Nat),
    NoBusErr dr.errs s.cfg → ((s.dev d).queue q).inflight = some fr → fr.descs = (a, w) :: rest →
    txOutcome fr dr.outcome = .ok c →
    let x := s.dev d
    let im := txImage x fr
    let mm := s.mmsl (macOf d)
    let cls := if d.hasMmsl && mmPen mm.control && (mmVdis mm.control || mm.vstat == .succeeded) then Cls.preemptable
      else .express
    let kind := eventKind im.ptp
    let stamped := stampStored (dmacfgTxext fr.conf.dmacfg) fr.conf.txBdControl im.ptp
    txDrawsInSet dr s d fr im.frame.length = true → (stamped = true → a.toNat + 12 < 2 ^ 32) →
    ∃ y : Device,
      let m := if cls = .preemptable then { mm with fragTx := bump mm.fragTx (dr.frags - 1) } else mm
      let t : State := { (s.setDev d y).setMmsl (macOf d) m with
        mem := Memory.writeWords s.mem
          ((if stamped then stampWords x.tsu a else []) ++ rest.map (fun p => (p.1 + 4, p.2 ||| 0x80000000#32))
            ++ [(a + 4, (w &&& 0x400FFFFF#32) ||| BitVec.ofNat 32 im.ck <<< 20
              ||| (if stamped then 0x00800000#32 else 0) ||| 0x80000000#32)]) }
      (runInput (.txDone d q dr) s =
        if ncrLbLocal fr.conf.ncr then rxDevice d im.frame dr.loop t
        else .next { t with lineOut := s.lineOut ++ [.txOut d im.frame cls] })
      ∧ y.tsr = (x.tsr ||| (if 1 ≤ c then 2#32 else 0) ||| 0x20#32)
      ∧ (∀ p, y.queue p =
        { x.queue p with
          isr := (x.queue p).isr ||| (if p = q then 0x80#32 else 0) ||| (if p = 0 then txEventBit kind else 0)
          txActive := (x.queue p).txActive && !x.haltReq
          inflight := if p = q then none else (x.queue p).inflight })
      ∧ y.haltReq = false ∧ y.ptp = txEventRegs x kind ∧ y.octTx = bump x.octTx im.frame.length
      ∧ (∀ k, y.stats[statIndex k]
        = if txCounted c im.frame k then bump x.stats[statIndex k] 1 else x.stats[statIndex k])
      ∧ y = { x with
          tsr := y.tsr, queues := y.queues, haltReq := y.haltReq, ptp := y.ptp, octTx := y.octTx, stats := y.stats }

/-- A bus error on a write of the write-back, at any of them: TSR.HRESP and the queue's HRESP are set, TXCOMP and TCOMP are
not, the queue goes inactive, the writes before it stay and the rest are not done, so that the first descriptor, written
last, stays hardware-owned (41_tx_ring R324 (c), R330). Everything else of the step happens, of any outcome: its own TSR and
interrupt bits, an event message's record, the counters, the line or the loopback, the fragment counter, the halt that
waits; and no frame is in flight (log 25). Accesses are numbered as in log 12, and the first that fails decides. The
configuration is that of the fetch (log 17); fragments in loopback: log 22; short frames: log 27; the sum that a timestamp's
address may not reach: log 31. -/
def Obligations.TxWriteBackError : Prop :=
  ∀ (d : Dev) (q : Fin 4) (dr : TxDraws) (s : State) (fr : TxFrame) (a w : Word) (rest : List (Word × Word)) (k : Nat),
    s.cfg.holes = [] → k ∈ dr.errs → (∀ j ∈ dr.errs, k ≤ j) → ((s.dev d).queue q).inflight = some fr →
    fr.descs = (a, w) :: rest →
    let x := s.dev d
    let im := txImage x fr
    let o := txOutcome fr dr.outcome
    let ok := outcomeIsOk o
    let mm := s.mmsl (macOf d)
    let kind := if ok then eventKind im.ptp else none
    let stamped := ok && stampStored (dmacfgTxext fr.conf.dmacfg) fr.conf.txBdControl im.ptp
    let before := (if stamped then stampWords x.tsu a else []) ++ rest.map (fun p => (p.1 + 4, p.2 ||| 0x80000000#32))
    txDrawsInSet dr s d fr im.frame.length = true → (stamped = true → a.toNat + 12 < 2 ^ 32) → k ≤ before.length →
    ∃ y : Device,
      let m := if ok = true ∧ txClass s d = .preemptable then { mm with fragTx := bump mm.fragTx (dr.frags - 1) } else mm
      let t : State := { (s.setDev d y).setMmsl (macOf d) m with mem := Memory.writeWords s.mem (before.take k) }
      (runInput (.txDone d q dr) s =
        if ok = false then .next t
        else if ncrLbLocal fr.conf.ncr then rxDevice d im.frame dr.loop t
        else .next { t with lineOut := s.lineOut ++ [.txOut d im.frame (txClass s d)] })
      ∧ y.tsr = x.tsr ||| (outcomeBits o).1 ||| 0x100#32
      ∧ (∀ p, y.queue p =
        { x.queue p with
          isr := (x.queue p).isr ||| (if p = q then (outcomeBits o).2 ||| 0x800#32 else 0)
            ||| (if p = 0 then txEventBit kind else 0)
          txActive := decide (p ≠ q) && (x.queue p).txActive && !x.haltReq
          inflight := if p = q then none else (x.queue p).inflight })
      ∧ y.haltReq = false ∧ y.ptp = txEventRegs x kind
      ∧ y.octTx = (if ok then bump x.octTx im.frame.length else x.octTx)
      ∧ (∀ c, y.stats[statIndex c]
        = if outcomeCounted im.frame o c then bump x.stats[statIndex c] 1 else x.stats[statIndex c])
      ∧ y = { x with
          tsr := y.tsr, queues := y.queues, haltReq := y.haltReq, ptp := y.ptp, octTx := y.octTx, stats := y.stats }

/-- Whatever the outcome and the timestamp, after a completed frame its first descriptor's w1 is software-owned, keeps
its software fields, shows the checksum code, the outcome's error bit and no other, and TSP exactly where a timestamp was
stored: it is written last (41_tx_ring R330; 20_memory R113). The checksum offload and the capture mode are those of the
configuration at the fetch (44_tsu R477, 70_reset R716; log 17). Of a frame looped back TxDelivered says it. -/
def Obligations.TxFirstWordLast : Prop :=
  ∀ (d : Dev) (q : Fin 4) (dr : TxDraws) (s t : State) (fr : TxFrame) (a w : Word) (rest : List (Word × Word)),
    NoBusErr dr.errs s.cfg → ((s.dev d).queue q).inflight = some fr → fr.descs = (a, w) :: rest →
    let o := txOutcome fr dr.outcome
    let im := txImage (s.dev d) fr
    ncrLbLocal fr.conf.ncr = false ∨ outcomeIsOk o = false →
    txDrawsInSet dr s d fr im.frame.length = true → runInput (.txDone d q dr) s = .next t →
    let v := Memory.read32 t.mem (a + 4)
    txUsed v = true ∧ v &&& 0x400FFFFF#32 = w &&& 0x400FFFFF#32
      ∧ field v 20 3 = (if outcomeIsOk o then im.ck else 0)
      ∧ v.getLsbD 23
        = (outcomeIsOk o && stampStored (dmacfgTxext fr.conf.dmacfg) fr.conf.txBdControl im.ptp)
      ∧ field v 24 2 = 0
      ∧ v.getLsbD 26 = decide (o = .lco) ∧ v.getLsbD 27 = decide (o = .busErr)
      ∧ v.getLsbD 28 = decide (o = .und) ∧ v.getLsbD 29 = decide (o = .rle)

/-- The write-back of a frame changes no byte of memory outside the w1 words of the frame's own descriptors and, where a
timestamp is stored, the timestamp words of its first, even where a bus error cuts it short (41_tx_ring R330, R324 (c);
44_tsu R477; 20_memory R112; loopback and capture are those of the configuration at the fetch, log 17). -/
def Obligations.TxWritesOnlyItsDescriptors : Prop :=
  ∀ (d : Dev) (q : Fin 4) (dr : TxDraws) (s t : State) (fr : TxFrame) (b : Nat),
    ((s.dev d).queue q).inflight = some fr →
    ncrLbLocal fr.conf.ncr = false ∨ outcomeIsOk (txOutcome fr dr.outcome) = false →
    runInput (.txDone d q dr) s = .next t →
    (∀ p ∈ fr.descs, ¬ inWord (p.1 + 4) b) →
    (outcomeIsOk (txOutcome fr dr.outcome) = true →
      stampStored (dmacfgTxext fr.conf.dmacfg) fr.conf.txBdControl (txImage (s.dev d) fr).ptp = true →
      ∀ p ∈ fr.descs.head?, ¬ inWord (p.1 + 8) b ∧ ¬ inWord (p.1 + 12) b) →
    Memory.read t.mem b = Memory.read s.mem b

/-- A halt that waits for a frame takes hold when it completes: every queue goes inactive, the request is cleared, and
every TX pointer stays (41_tx_ring R332). -/
def Obligations.TxHaltTakesHold : Prop :=
  ∀ (d : Dev) (q : Fin 4) (dr : TxDraws) (s t : State) (fr : TxFrame),
    (s.dev d).haltReq = true → ((s.dev d).queue q).inflight = some fr →
    txDrawsInSet dr s d fr (txImage (s.dev d) fr).frame.length = true →
    runInput (.txDone d q dr) s = .next t →
    (t.dev d).haltReq = false ∧ ∀ p, ((t.dev d).queue p).txActive = false
      ∧ ((t.dev d).queue p).txCur = ((s.dev d).queue p).txCur

/-- The line receives a frame only from a completed transmission, and a verify or respond packet only from its own step;
no other step gives the line anything, and what it received stays (41_tx_ring R323; 45_mmsl R529, R533; loopback is that
of the configuration at the fetch, log 17). -/
def Obligations.LineReceivesOnly : Prop :=
  ∀ (i : Input) (s t : State), runInput i s = .next t → ∃ l, t.lineOut = s.lineOut ++ l ∧
    (l = [] ∨ (∃ m, i = .mmSendVerify m ∧ l = [.verify m]) ∨ (∃ m, i = .mmSendRespond m ∧ l = [.respond m])
      ∨ ∃ d q dr fr, i = .txDone d q dr ∧ ((s.dev d).queue q).inflight = some fr
        ∧ outcomeIsOk (txOutcome fr dr.outcome) = true ∧ ncrLbLocal fr.conf.ncr = false
        ∧ l = [.txOut d (txImage (s.dev d) fr).frame (txClass s d)])

/-- One-step sync, of every frame delivered to the line. In replace mode the ten bytes at the originTimestamp of a Sync frame
hold the TSU value of that step, and so do PTP_TX_SEC and PTP_TX_NSEC, whether or not its descriptor takes a timestamp; and
where it does, its timestamp words agree with them (44_tsu R494, R480, R491). In adjust mode a Sync frame has the
parameter's delta added to its correctionField modulo 2^64 (R492). Its other bytes go as they were, but for a UDP checksum
over IPv4, which is 0 (R493), and padding and FCS. With OSS_EN 0, with NOCRC, of a frame that is no Sync, and of one too
short for the field, no byte changes (R490-R492). For the timestamp words, the other descriptors' w1 words do not lie on
them (at the end of memory: log 31); the configuration is that of the fetch (log 17); a checksum is cleared wherever the
field is written (log 21); the message is recognised before padding and FCS (log 23). -/
def Obligations.OneStepSyncAgrees : Prop :=
  ∀ (d : Dev) (q : Fin 4) (dr : TxDraws) (s : State) (fr : TxFrame) (a w : Word) (rest : List (Word × Word)) (c : Nat),
    NoBusErr dr.errs s.cfg → ((s.dev d).queue q).inflight = some fr → fr.descs = (a, w) :: rest →
    txOutcome fr dr.outcome = .ok c → ncrLbLocal fr.conf.ncr = false →
    txDrawsInSet dr s d fr (txImage (s.dev d) fr).frame.length = true →
    let x := s.dev d
    let f := if fr.nocrc = false ∧ dmacfgTxcoen fr.conf.dmacfg = true then
      (checksumOffload fr.conf.stackedVlan fr.data).1 else fr.data
    let g := ptpMessage (parseFrame fr.conf.stackedVlan f.length f) f
      (if ncrPtpUcEn fr.conf.ncr then some fr.conf.txPtpUnicast else none)
    let stamped := stampStored (dmacfgTxext fr.conf.dmacfg) fr.conf.txBdControl g
    (stamped = true → a.toNat + 12 < 2 ^ 32) →
    ∃ (t : State) (h : List Byte), runInput (.txDone d q dr) s = .next t
      ∧ t.lineOut = s.lineOut ++ [.txOut d (if fr.nocrc then h else withFcs (pad60 h)) (txClass s d)]
      ∧ h.length = f.length
      ∧ (ncrOssEn fr.conf.ncr = false ∨ fr.nocrc = true ∨ (∀ e, g = some e → e.kind ≠ 0) → h = f)
      ∧ ∀ e, g = some e → e.kind = 0 → ncrOssEn fr.conf.ncr = true → fr.nocrc = false →
        (ncrOssCorr fr.conf.ncr = false → f.length < e.start + 44 → h = f)
        ∧ (ncrOssCorr fr.conf.ncr = false → e.start + 44 ≤ f.length →
          slice h (e.start + 34) 10 = beBytes (x.tsu.sec.toNat % 2 ^ 48) 6 ++ beBytes x.tsu.ns.toNat 4
            ∧ (t.dev d).ptp.txSec = x.tsu.sec.extractLsb' 0 32 ∧ (t.dev d).ptp.txNsec = x.tsu.ns.setWidth 32
            ∧ (stamped = true → (∀ p ∈ rest, ∀ b, inWord (p.1 + 4) b → ¬ inWord (a + 8) b ∧ ¬ inWord (a + 12) b) →
              Memory.read32 t.mem (a + 8) = (x.tsu.sec.extractLsb' 0 2 ++ x.tsu.ns : BitVec 32)
                ∧ Memory.read32 t.mem (a + 12) = (x.tsu.sec.extractLsb' 2 4).setWidth 32)
            ∧ SyncKeeps e (e.start + 34) (e.start + 44) f h)
        ∧ (ncrOssCorr fr.conf.ncr = true → f.length < e.start + 16 → h = f)
        ∧ (ncrOssCorr fr.conf.ncr = true → e.start + 16 ≤ f.length →
          beField h (e.start + 8) 8
              = (beField f (e.start + 8) 8 + (Config.ossAdjustDelta x.tsu.sec x.tsu.ns f).toNat) % 2 ^ 64
            ∧ SyncKeeps e (e.start + 8) (e.start + 16) f h)

/-- Event messages are recorded at the step. A received frame that passes the receive checks, whatever becomes of it then,
and a transmitted frame of outcome OK set the registers and the ISR bit that R482 names for their direction and type, to
the TSU value of the step; a general message, a frame that fails, and any other frame set none (44_tsu R482, R480). Which
frame is PTP and of which type is stated by FrameRecognition. In
local loopback the receiver may record the frame a second time, in its own registers and bits. -/
def Obligations.PtpEventsRecorded : Prop :=
  (∀ (d : Dev) (f : List Byte) (dr : RxDraws) (s t : State), rxDevice d f dr s = .next t →
    let x := s.dev d
    let ok := fcsOk dr.runtFcs f
    let passes := ncrRe x.ncr && !dr.overrun
      && (rxChecks x.ncfgr x.jml (parseFrame x.stackedVlan (f.length - 4) f) f.length ok).2
    let kind := if passes then eventKind (rxMessage x f) else none
    (t.dev d).ptp = rxEventRegs x kind
      ∧ ((t.dev d).queue 0).isr &&& 0x03FC0000#32 = ((x.queue 0).isr ||| rxEventBit kind) &&& 0x03FC0000#32)
  ∧ ∀ (d : Dev) (q : Fin 4) (dr : TxDraws) (s t : State) (fr : TxFrame), ((s.dev d).queue q).inflight = some fr →
    let x := s.dev d
    let im := txImage x fr
    let o := txOutcome fr dr.outcome
    let kind := if outcomeIsOk o then eventKind im.ptp else none
    txDrawsInSet dr s d fr im.frame.length = true → runInput (.txDone d q dr) s = .next t →
    let p := (t.dev d).ptp
    let r := txEventRegs x kind
    let isr := ((t.dev d).queue 0).isr
    p.txSec = r.txSec ∧ p.txNsec = r.txNsec ∧ p.peerTxSec = r.peerTxSec ∧ p.peerTxNsec = r.peerTxNsec
      ∧ isr &&& 0x03300000#32 = ((x.queue 0).isr ||| txEventBit kind) &&& 0x03300000#32
      ∧ (ncrLbLocal fr.conf.ncr = false ∨ outcomeIsOk o = false →
        p = r ∧ isr &&& 0x03FC0000#32 = ((x.queue 0).isr ||| txEventBit kind) &&& 0x03FC0000#32)

/-- Checksum offload. When the IP header is valid (43_classifier R402), and which code the offload answers: 3 for a frame
that is neither IPv4 nor IPv6, then 5 for a fragment, 6 for a protocol but TCP and UDP, 7 for a datagram that does not end
inside the frame or has no room for the transport header, else 0. Any code but 0 leaves the frame as it is. Code 0 fills
checksums that verify: the ones'-complement sum of the IPv4 header, and that of the pseudo-header and the TCP or UDP
segment, are all ones, a UDP checksum is not 0, and no other byte changes (41_tx_ring R325). -/
def Obligations.ChecksumsVerify : Prop :=
  ∀ (vlan : Word) (f g : List Byte) (ck : Nat), checksumOffload vlan f = (g, ck) →
    let p := parseFrame vlan f.length f
    let ihl := 4 * (byteAt f p.l3 % 16)
    (∀ l4, p.net = .ipv4 l4 ↔ p.et = some 0x0800 ∧ p.l3 + 20 ≤ f.length ∧ byteAt f p.l3 / 16 = 4 ∧ 20 ≤ ihl
        ∧ p.l3 + ihl ≤ f.length ∧ l4 = p.l3 + ihl)
      ∧ (∀ l4, p.net = .ipv6 l4 ↔ p.et = some 0x86DD ∧ p.l3 + 40 ≤ f.length ∧ byteAt f p.l3 / 16 = 6
        ∧ l4 = p.l3 + 40)
      ∧ (p.net = .other → ck = 3)
      ∧ (∀ l4 v4, p.net = .ipv4 l4 ∧ v4 = true ∨ p.net = .ipv6 l4 ∧ v4 = false →
        let flags := be16 f (p.l3 + 6)
        let proto := byteAt f (p.l3 + if v4 then 9 else 6)
        let stop := if v4 then p.l3 + be16 f (p.l3 + 2) else p.l3 + 40 + be16 f (p.l3 + 4)
        let dataOff := 4 * (byteAt f (l4 + 12) / 16)
        ck = if v4 ∧ (flags.testBit 13 ∨ flags % 2 ^ 13 ≠ 0) then 5
          else if proto ≠ 6 ∧ proto ≠ 17 then 6
          else if f.length < stop ∨ (proto = 17 ∧ stop < l4 + 8)
            ∨ (proto = 6 ∧ (dataOff < 20 ∨ stop < l4 + 20 ∨ stop < l4 + dataOff)) then 7
          else 0)
      ∧ (ck ≠ 0 → g = f)
      ∧ (ck = 0 → g.length = f.length
        ∧ (∀ l4, p.net = .ipv4 l4 → ocSum (slice g p.l3 (l4 - p.l3)) = 0xFFFF)
        ∧ ∀ l4, p.l4 = some l4 →
          ocSum (pseudoHeader p (p.protocol f) (datagramEnd p f - l4) g ++ slice g l4 (datagramEnd p f - l4)) = 0xFFFF
          ∧ (p.protocol f = 17 → be16 g (l4 + 6) ≠ 0)
          ∧ ∀ i, (p.net = .ipv4 l4 → i ≠ p.l3 + 10 ∧ i ≠ p.l3 + 11) →
            i ≠ l4 + (if p.protocol f = 17 then 6 else 16) → i ≠ l4 + (if p.protocol f = 17 then 7 else 17) →
            g.getD i 0 = f.getD i 0)

/-- A padded frame with its FCS has at least 64 bytes, begins with the frame, is padded with zeros, and passes the FCS
check of a receiver (41_tx_ring R326; 43_classifier R407). -/
def Obligations.PaddingAndFcs : Prop :=
  ∀ (f : List Byte) (r : Bool),
    (withFcs (pad60 f)).length = max f.length 60 + 4 ∧ (withFcs (pad60 f)).take f.length = f
      ∧ (∀ i, f.length ≤ i → i < 60 → (withFcs (pad60 f)).getD i 1 = 0)
      ∧ fcsOk r (withFcs (pad60 f)) = true

/-! ### The receive engine and the classifier -/

/-- An arriving frame. A frame that the line may offer (42_rx_ring R355: it has a byte; a preemptable one needs PEN; an
express one comes whole) is accounted by the MMSL and then received by the eMAC of its physical MAC where it is express
and RXEMAC is 1, else by the pMAC (45_mmsl R540, R541); one that failed reassembly by no device (R545). A frame it may not
offer, and any while the device is in local loopback, is passed over (41_tx_ring R333; log 3). While RE is 0 it changes
nothing but the accounting (42_rx_ring R370; the MMSL counters saturate or wrap with the statistics: log 24). -/
def Obligations.RxFrameRouted : Prop :=
  ∀ (m : Mac) (a : Arrival) (dr : RxDraws) (s : State),
    let control := (s.mmsl m).control
    let d := if a.cls = .express ∧ control.getLsbD 3 = true then emacOf m else pmacOf m
    let offered := a.frame ≠ [] ∧ 1 ≤ a.frags ∧ (a.cls = .express → a.frags = 1 ∧ a.aerr = false)
      ∧ (a.cls = .preemptable → control.getLsbD 2 = true) ∧ ncrLbLocal (s.dev d).ncr = false
      ∧ ∀ r, dr.route = some r → r < s.cfg.nQueues d
    let accounted := s.setMmsl m
      (if a.cls = .preemptable then mmslAccounted (s.mmsl m) a.frags a.aerr else s.mmsl m)
    (offered → a.aerr = false → runInput (.rxFrame m a dr) s = rxDevice d a.frame dr accounted)
      ∧ (offered → a.aerr = true → runInput (.rxFrame m a dr) s = .next accounted)
      ∧ (offered → ncrRe (s.dev d).ncr = false → runInput (.rxFrame m a dr) s = .next accounted)
      ∧ (¬ offered → runInput (.rxFrame m a dr) s = .next s)

/-- Frames that are discarded before a ring is reached. An overrun drops an arriving frame: RSR.RXOVR and ISR.ROVR are set
and OVERRUNS_RX counts (42_rx_ring R371); a preemptable frame has its MMSL accounting (45_mmsl R543, R544; log 24). Else in
the order of the checks (43_classifier R408): shorter than 64
bytes, counted as undersize where its FCS is good; longer than the maximum (R403), as oversize or jabber; a bad FCS,
counted and, without IRXFCS, discarded; a length field that disagrees (R406), counted and, with LFERD, discarded; with
DNVLAN an untagged frame, not counted (R404). A frame that passes is recorded as the event it is (44_tsu R482) and then
discarded with no counter where no address filter accepts it (R412) or a screener drops it (R441). No pointer, descriptor
or byte of memory changes. The FCS of a frame of under four bytes is a draw (log 16). -/
def Obligations.RxDiscards : Prop :=
  (∀ (m : Mac) (a : Arrival) (dr : RxDraws) (s : State),
    let d := rxTarget s m a.cls
    let x := s.dev d
    arrivalOffered a (s.mmsl m) = true → a.aerr = false → ncrLbLocal x.ncr = false →
    rxDrawsInSet dr (s.cfg.nQueues d) = true → ncrRe x.ncr = true → dr.overrun = true →
    runInput (.rxFrame m a dr) s = .next
      ((s.setMmsl m (if a.cls = .preemptable then mmslAccounted (s.mmsl m) a.frags false else s.mmsl m)).setDev d
        ({ x with
            rsr := x.rsr ||| 4#32
            stats := x.stats.set (statIndex .overrunsRx) (bump x.stats[statIndex .overrunsRx] 1) }.setQueue 0
          { x.queue 0 with isr := (x.queue 0).isr ||| 0x400#32 })))
  ∧ ∀ (d : Dev) (f : List Byte) (dr : RxDraws) (s : State), ncrRe (s.dev d).ncr = true → dr.overrun = false →
    let x := s.dev d
    let p := parseFrame x.stackedVlan (f.length - 4) f
    let ok := if f.length < 4 then dr.runtFcs else decide (f.drop (f.length - 4) = fcs32 (f.take (f.length - 4)))
    let limit := if ncfgrJumbo x.ncfgr then field x.jml 0 14
      else if ncfgrRx1536 x.ncfgr then 1536 else 1518 + 4 * p.tags
    let disagrees := p.et.any fun lf =>
      decide (lf < 0x0600 ∧ (f.length - 4 - p.l3 < lf ∨ (lf < f.length - 4 - p.l3 ∧ 64 < f.length)))
    let fcs := if ok then x else countedOnce x .fcsErrorsRx
    let len := if disagrees then countedOnce fcs .lengthErrorsRx else fcs
    let ends := fun y : Device => rxDevice d f dr s = .next (s.setDev d y)
    if f.length < 64 then ends (if ok then countedOnce x .undersizeRx else x)
    else if limit < f.length then ends (countedOnce x (if ok then .oversizeRx else .jabbersRx))
    else if ok = false ∧ ncfgrIrxfcs x.ncfgr = false then ends fcs
    else if disagrees = true ∧ ncfgrLferd x.ncfgr = true then ends len
    else if ncfgrDnvlan x.ncfgr = true ∧ p.tags = 0 then ends len
    else
      (rxChecks x.ncfgr x.jml p f.length (fcsOk dr.runtFcs f)).2 = true
        ∧ (accepted x f = false ∨ targetQueue (s.cfg.nQueues d) dr.route (screen s.cfg x dr.tests p f) = none →
          ∃ y, ends y ∧ RxReported x y f ok 0 0 0 none (x.queue 0).rxCur)

/-- A frame that reaches a queue with no buffer for it is dropped as a resource error: RSR.BNA, the queue's RXUBR and
RESOURCE_ERRORS_RX; what its checks count (43_classifier R408) and the event it is (44_tsu R482) are kept. So where the
queue is disabled (42_rx_ring R356), with memory as it was; and where the ring, after any number of hardware-owned
descriptors that do not hold the frame, comes to a software-owned one or round to the first again: their buffers hold the
frame's first bytes, no descriptor word is written, and the pointer is as before (R358). The buffers do not lie on the
descriptors' first words. -/
def Obligations.RxResourceErrorDrops : Prop :=
  ∀ (d : Dev) (f : List Byte) (dr : RxDraws) (s : State) (t : Fin 4), RxReaches s d f dr t →
    let x := s.dev d
    let ok := fcsOk dr.runtFcs f
    let cur := (x.queue t).rxCur
    let bytes := rxBufBytes x t
    let data := if ncfgrRfcs x.ncfgr then f.take (f.length - 4) else f
    let dropped := fun (m : Memory) => ∃ y, rxDevice d f dr s = .next { s.setDev d y with mem := m }
      ∧ RxReported x y f ok t 1#32 4#32 (some .resourceErrorsRx) cur
    (t ≠ 0 ∧ (x.queue t).rxQdis = true → dropped s.mem)
      ∧ ∀ (descs : List (Word × Word)) (a' : Word), NoBusErr dr.errs s.cfg → (t = 0 ∨ (x.queue t).rxQdis = false) →
        1 ≤ bytes → RxChain s.mem (x.queue t).rxBase cur (stride (dmacfgRxext x.dmacfg)) cur descs a' →
        (descs ≠ [] ∧ a' = cur) ∨ rxOwn (Memory.read32 s.mem a') = true →
        descs.length * bytes < ncfgrRbof x.ncfgr + data.length →
        (∀ r ∈ descs, (rxAddr r.2).toNat + bytes < 2 ^ 32) → BuffersOff bytes descs (a' :: descs.map Prod.fst) →
        dropped (storeOver bytes (ncfgrRbof x.ncfgr) s.mem descs data)

/-- A bus error drops a frame that reaches a queue at that access: RSR.HNO and the queue's HRESP are set, the writes before
it stay, the rest are not done; the pointer is as before the frame unless an ownership write was done (42_rx_ring R372).
So for the read of each descriptor, for each byte of the frame, and for each word of the write-back, in the order of R360
and R366. Accesses are numbered as in log 12, and the first that fails decides. What the checks count (43_classifier R408)
and the event (44_tsu R482) are kept. The buffers do not lie on the descriptors' first words. A timestamp may end at the
last byte of memory (log 31). -/
def Obligations.RxBusErrorDrops : Prop :=
  ∀ (d : Dev) (f : List Byte) (dr : RxDraws) (s : State) (t : Fin 4) (before : List (Word × Word)) (z : Word × Word)
    (a' : Word) (k : Nat), s.cfg.holes = [] → k ∈ dr.errs → (∀ j ∈ dr.errs, k ≤ j) → RxReaches s d f dr t →
    let x := s.dev d
    let p := parseFrame x.stackedVlan (f.length - 4) f
    let ok := fcsOk dr.runtFcs f
    let cur := (x.queue t).rxCur
    let bytes := rxBufBytes x t
    let off := ncfgrRbof x.ncfgr
    let descs := before ++ [z]
    let data := if ncfgrRfcs x.ncfgr then f.take (f.length - 4) else f
    let stamped := stampStored (dmacfgRxext x.dmacfg) x.rxBdControl (rxMessage x f)
    (t = 0 ∨ (x.queue t).rxQdis = false) →
    RxChain s.mem (x.queue t).rxBase cur (stride (dmacfgRxext x.dmacfg)) cur descs a' →
    before.length * bytes < off + data.length → off + data.length ≤ (before.length + 1) * bytes →
    (∀ r ∈ descs, (rxAddr r.2).toNat + bytes < 2 ^ 32) → BuffersOff bytes descs (descs.map Prod.fst) →
    (stamped = true → z.1.toNat + 12 < 2 ^ 32) →
    let stored := fun n => storeOver bytes off s.mem descs (data.take n)
    let dropped := fun (m : Memory) (a : Word) => ∃ y, rxDevice d f dr s = .next { s.setDev d y with mem := m }
      ∧ RxReported x y f ok t 8#32 0x800#32 none a
    (∀ i ≤ before.length, k = i + (i * bytes - off) → dropped (stored (i * bytes - off)) cur)
      ∧ (∀ n < data.length, k = n + 1 + (off + n) / bytes → dropped (stored n) cur)
      ∧ ∃ w, EofWord w x p f ok data.length (before.length + 1) ∧
        let status := before.mapIdx (fun i r => (r.1 + 4, if i = 0 then 0x4000#32 else 0#32))
          ++ (if stamped then stampWords x.tsu z.1 else []) ++ [(z.1 + 4, w)]
        let own := before.map (fun r => (r.1, (r.2 &&& 0xFFFFFFFB#32) ||| 1#32))
          ++ [(z.1, (z.2 &&& 0xFFFFFFFB#32) ||| (if stamped then 4#32 else 0) ||| 1#32)]
        ∀ n < status.length + own.length, k = before.length + 1 + data.length + n →
          dropped (Memory.writeWords (stored data.length) ((status ++ own).take n))
            (if n ≤ status.length then cur else a')

/-- What a received frame can change, whatever becomes of it and wherever a bus error falls: its own device and memory
only; memory only where it reaches a queue that is not disabled; and there only the buffers and the words w0 and w1, and
with extended descriptors w2 and w3, of the hardware-owned descriptors from the queue's pointer on (42_rx_ring R350, R358,
R360, R366, R372; 20_memory R112). The descriptors named hold the frame, or the ring ends behind them; their buffers do not
lie on the first words that the walk reads. -/
def Obligations.RxWritesOnlyItsRing : Prop :=
  ∀ (d : Dev) (f : List Byte) (dr : RxDraws) (s u : State), rxDevice d f dr s = .next u →
    (∃ y m, u = { s.setDev d y with mem := m })
      ∧ ((∀ t, ¬ RxReaches s d f dr t ∨ (t ≠ 0 ∧ ((s.dev d).queue t).rxQdis = true)) → u.mem = s.mem)
      ∧ ∀ (t : Fin 4) (descs : List (Word × Word)) (a' : Word) (b : Nat), RxReaches s d f dr t →
        let x := s.dev d
        let cur := (x.queue t).rxCur
        let bytes := rxBufBytes x t
        RxChain s.mem (x.queue t).rxBase cur (stride (dmacfgRxext x.dmacfg)) cur descs a' →
        BuffersOff bytes descs (descs.map Prod.fst) →
        ncfgrRbof x.ncfgr + (if ncfgrRfcs x.ncfgr then f.length - 4 else f.length) ≤ descs.length * bytes
          ∨ (BuffersOff bytes descs [a'] ∧ ((descs ≠ [] ∧ a' = cur) ∨ rxOwn (Memory.read32 s.mem a') = true)) →
        (∀ r ∈ descs, ¬ inWord r.1 b ∧ ¬ inWord (r.1 + 4) b
          ∧ (dmacfgRxext x.dmacfg = true → ¬ inWord (r.1 + 8) b ∧ ¬ inWord (r.1 + 12) b)
          ∧ (b < (rxAddr r.2).toNat ∨ (rxAddr r.2).toNat + bytes ≤ b)) →
        Memory.read u.mem b = Memory.read s.mem b

/-- A frame that passes the checks and the filters and fits the queue's next buffer is stored there, behind the offset;
its descriptor gets the timestamp where it is captured, the status word, then its ownership (42_rx_ring R360, R364-R366;
30_encoding R149); the pointer moves on, REC and RCOMP are set, an event message is recorded (44_tsu R482) and the frame is
counted (42_rx_ring R367). A timestamp may end at the last byte of memory (log 31). -/
def Obligations.RxStoresOneBuffer : Prop :=
  ∀ (d : Dev) (f : List Byte) (dr : RxDraws) (s : State) (t : Fin 4) (a' : Word), NoBusErr dr.errs s.cfg →
    ncrRe (s.dev d).ncr = true → dr.overrun = false → CleanFrame (s.dev d) dr f →
    let x := s.dev d
    let p := parseFrame x.stackedVlan (f.length - 4) f
    let ok := fcsOk dr.runtFcs f
    let cur := (x.queue t).rxCur
    let w0 := Memory.read32 s.mem cur
    let data := if ncfgrRfcs x.ncfgr then f.take (f.length - 4) else f
    let stamped := stampStored (dmacfgRxext x.dmacfg) x.rxBdControl (rxMessage x f)
    targetQueue (s.cfg.nQueues d) dr.route (screen s.cfg x dr.tests p f) = some t →
    (t = 0 ∨ (x.queue t).rxQdis = false) → rxOwn w0 = false →
    1 ≤ rxBufBytes x t → ncfgrRbof x.ncfgr + data.length ≤ rxBufBytes x t →
    (rxAddr w0).toNat + ncfgrRbof x.ncfgr + data.length < 2 ^ 32 →
    nextDesc (x.queue t).rxBase (rxWrap w0) (stride (dmacfgRxext x.dmacfg)) cur = some a' →
    (stamped = true → cur.toNat + 12 < 2 ^ 32) →
    ∃ y w, rxDevice d f dr s = .next
        { s.setDev d y with
          mem := Memory.writeWords (Memory.writeBytes s.mem ((rxAddr w0).toNat + ncfgrRbof x.ncfgr) data)
            ((if stamped then stampWords x.tsu cur else [])
              ++ [(cur + 4, w), (cur, (w0 &&& 0xFFFFFFFB#32) ||| (if stamped then 4#32 else 0) ||| 1#32)]) }
      ∧ EofWord w x p f ok data.length 1 ∧ RxStored x y t a' f ok

/-- A frame that needs several buffers is stored over them in ring order, the offset in the first only (42_rx_ring R360,
R362). The descriptors but the last get a status word with SOF in the first alone; the last gets the timestamp where it is
captured and the status word with EOF; then all are returned in order, the last one last (R364-R366). The rest is as for
one buffer (R367; 44_tsu R482). The buffers do not lie on the descriptors' first words. A timestamp may end at the last byte
of memory (log 31). -/
def Obligations.RxStoresSeveralBuffers : Prop :=
  ∀ (d : Dev) (f : List Byte) (dr : RxDraws) (s : State) (t : Fin 4) (h : Word × Word) (mid : List (Word × Word))
    (z : Word × Word) (a' : Word), NoBusErr dr.errs s.cfg →
    ncrRe (s.dev d).ncr = true → dr.overrun = false → CleanFrame (s.dev d) dr f →
    let x := s.dev d
    let p := parseFrame x.stackedVlan (f.length - 4) f
    let ok := fcsOk dr.runtFcs f
    let cur := (x.queue t).rxCur
    let bytes := rxBufBytes x t
    let descs := h :: mid ++ [z]
    let data := if ncfgrRfcs x.ncfgr then f.take (f.length - 4) else f
    let stamped := stampStored (dmacfgRxext x.dmacfg) x.rxBdControl (rxMessage x f)
    targetQueue (s.cfg.nQueues d) dr.route (screen s.cfg x dr.tests p f) = some t →
    (t = 0 ∨ (x.queue t).rxQdis = false) →
    RxChain s.mem (x.queue t).rxBase cur (stride (dmacfgRxext x.dmacfg)) cur descs a' →
    (mid.length + 1) * bytes < ncfgrRbof x.ncfgr + data.length →
    ncfgrRbof x.ncfgr + data.length ≤ (mid.length + 2) * bytes →
    (∀ r ∈ descs, (rxAddr r.2).toNat + bytes < 2 ^ 32) →
    (∀ r ∈ descs, ∀ u ∈ descs, ∀ b, inWord u.1 b → b < (rxAddr r.2).toNat ∨ (rxAddr r.2).toNat + bytes ≤ b) →
    (stamped = true → z.1.toNat + 12 < 2 ^ 32) →
    ∃ y w, rxDevice d f dr s = .next
        { s.setDev d y with
          mem := Memory.writeWords (storeOver bytes (ncfgrRbof x.ncfgr) s.mem descs data)
            ([(h.1 + 4, 0x4000#32)] ++ mid.map (fun r => (r.1 + 4, 0#32))
              ++ (if stamped then stampWords x.tsu z.1 else []) ++ [(z.1 + 4, w)]
              ++ (h :: mid).map (fun r => (r.1, (r.2 &&& 0xFFFFFFFB#32) ||| 1#32))
              ++ [(z.1, (z.2 &&& 0xFFFFFFFB#32) ||| (if stamped then 4#32 else 0) ||| 1#32)]) }
      ∧ EofWord w x p f ok data.length (mid.length + 2) ∧ RxStored x y t a' f ok

/-- Where an address passes the end of memory (20_memory R108), and a receive buffer of no bytes. A fetch stops at a
hardware-owned descriptor whose buffer's address plus length reaches 2^32, or whose successor does (41_tx_ring R302, R310);
a completed frame at a timestamp whose last word's address does. A received frame stops where the buffer size of its queue
is 0 (42_rx_ring R361); at a hardware-owned descriptor where the end of the bytes stored there reaches 2^32, or the
successor does (R352, R360); and at its timestamp. The sums are R108's, but that of a timestamp, which is the model's choice
(log 31). A walk within 2^29 descriptors: log 14. The configuration of a frame in flight is that of its fetch (log 17). The
buffers do not lie on the first words that the walk reads. -/
def Obligations.AddressOverflows : Prop :=
  (∀ (d : Dev) (q : Fin 4) (errs : List Nat) (s : State) (descs : List (Word × Word)) (a : Word), NoBusErr errs s.cfg →
    txFetchEnabled s.cfg d q (s.dev d) = true →
    let x := s.dev d
    let cur := (x.queue q).txCur
    let step := stride (dmacfgTxext x.dmacfg)
    let w1 := Memory.read32 s.mem (a + 4)
    TxChain s.mem (x.queue q).txBase cur step cur descs a → (∀ p ∈ descs, txLast p.2 = false) →
    TxBuffersFit s.mem descs → descs = [] ∨ a ≠ cur → descs.length < 2 ^ 29 → txUsed w1 = false →
    2 ^ 32 ≤ (Memory.read32 s.mem a).toNat + txLen w1 ∨ (txWrap w1 = false ∧ 2 ^ 32 ≤ a.toNat + step) →
    runInput (.txFetch d q errs) s = .fault .addressOverflow)
  ∧ (∀ (d : Dev) (q : Fin 4) (dr : TxDraws) (s : State) (fr : TxFrame) (h : Word × Word) (rest : List (Word × Word)),
    ((s.dev d).queue q).inflight = some fr → fr.descs = h :: rest → outcomeIsOk (txOutcome fr dr.outcome) = true →
    txDrawsInSet dr s d fr (txImage (s.dev d) fr).frame.length = true →
    stampStored (dmacfgTxext fr.conf.dmacfg) fr.conf.txBdControl (txImage (s.dev d) fr).ptp = true →
    2 ^ 32 ≤ h.1.toNat + 12 → runInput (.txDone d q dr) s = .fault .addressOverflow)
  ∧ ∀ (d : Dev) (f : List Byte) (dr : RxDraws) (s : State) (t : Fin 4), RxReaches s d f dr t →
    let x := s.dev d
    let cur := (x.queue t).rxCur
    let step := stride (dmacfgRxext x.dmacfg)
    let chain := RxChain s.mem (x.queue t).rxBase cur step cur
    let bytes := rxBufBytes x t
    let off := ncfgrRbof x.ncfgr
    let len := if ncfgrRfcs x.ncfgr then f.length - 4 else f.length
    (t = 0 ∨ (x.queue t).rxQdis = false) →
    (bytes = 0 → rxDevice d f dr s = .fault .rxBufferSizeZero)
    ∧ (∀ (descs : List (Word × Word)) (a : Word), NoBusErr dr.errs s.cfg → 1 ≤ bytes → chain descs a →
      descs = [] ∨ a ≠ cur → descs.length * bytes < off + len → (∀ r ∈ descs, (rxAddr r.2).toNat + bytes < 2 ^ 32) →
      BuffersOff bytes descs (a :: descs.map Prod.fst) →
      let w0 := Memory.read32 s.mem a
      let stop := (rxAddr w0).toNat + min bytes (off + len - descs.length * bytes)
      rxOwn w0 = false →
      2 ^ 32 ≤ stop ∨ (rxWrap w0 = false ∧ 2 ^ 32 ≤ a.toNat + step) → rxDevice d f dr s = .fault .addressOverflow)
    ∧ ∀ (before : List (Word × Word)) (z : Word × Word) (a : Word), NoBusErr dr.errs s.cfg →
      chain (before ++ [z]) a → before.length * bytes < off + len → off + len ≤ (before.length + 1) * bytes →
      (∀ r ∈ before ++ [z], (rxAddr r.2).toNat + bytes < 2 ^ 32) →
      BuffersOff bytes (before ++ [z]) ((before ++ [z]).map Prod.fst) →
      stampStored (dmacfgRxext x.dmacfg) x.rxBdControl (rxMessage x f) = true → 2 ^ 32 ≤ z.1.toNat + 12 →
      rxDevice d f dr s = .fault .addressOverflow

/-- What the parser and the recognisers find in a frame of `m` bytes without its FCS. The VLAN tags and the fields of the
first (43_classifier R400), the ethertype and the start of layer 3 (R401), valid IPv4 and IPv6, the transport header, its
payload and the DS value, each inside the `m` bytes (R402). A frame is PTP exactly when its ethertype is 0x88F7, else when
it carries UDP to port 319 or 320 with one of the addresses of R472 and R473, the unicast address that the direction gives
among them (44_tsu R475); its message starts at layer 3 or behind the UDP header, inside the frame, and its type is the low
nibble there, an event message where that is below 4 (R474). A transmitted frame is looked at after checksum offload and
before one-step sync, padding and FCS, under the configuration of its fetch (R470; logs 17, 23). The type-ID register that
is reported is the lowest enabled one that equals the ethertype (43_classifier R414), the specific-address filter the lowest
that matches (R412). -/
def Obligations.FrameRecognition : Prop :=
  (∀ (vlan : Word) (m : Nat) (f : List Byte), m ≤ f.length →
    let p := parseFrame vlan m f
    let depth := field vlan 16 2
    let outer := depth = 2 ∧ be16 f 12 = field vlan 0 16
    let ihl := 4 * (byteAt f p.l3 % 16)
    let proto (l4 n : Nat) :=
      (p.net = .ipv4 l4 ∧ be16 f (p.l3 + 6) % 2 ^ 13 = 0 ∧ byteAt f (p.l3 + 9) = n)
        ∨ (p.net = .ipv6 l4 ∧ byteAt f (p.l3 + 6) = n)
    (p.len = m ∧ p.tags ≤ 2 ∧ (1 ≤ p.tags ↔ 18 ≤ m ∧ (outer ∨ (1 ≤ depth ∧ be16 f 12 = 0x8100)))
      ∧ (p.tags = 2 ↔ 22 ≤ m ∧ outer ∧ be16 f 16 = 0x8100)
      ∧ be16 f 14 = p.pcp * 2 ^ 13 + p.cfi * 2 ^ 12 + p.vid ∧ p.cfi < 2 ∧ p.vid < 2 ^ 12)
    ∧ (p.l3 = 14 + 4 * p.tags ∧ p.et = if p.l3 ≤ m then some (be16 f (12 + 4 * p.tags)) else none)
    ∧ (∀ l4, (p.net = .ipv4 l4 ↔ p.et = some 0x0800 ∧ p.l3 + 20 ≤ m ∧ byteAt f p.l3 / 16 = 4 ∧ 20 ≤ ihl
          ∧ p.l3 + ihl ≤ m ∧ l4 = p.l3 + ihl)
        ∧ (p.net = .ipv6 l4 ↔ p.et = some 0x86DD ∧ p.l3 + 40 ≤ m ∧ byteAt f p.l3 / 16 = 6 ∧ l4 = p.l3 + 40)
        ∧ (p.l4 = some l4 ↔ p.net = .ipv4 l4 ∨ p.net = .ipv6 l4))
    ∧ (p.transport f = .udp ↔ ∃ l4, proto l4 17 ∧ l4 + 8 ≤ m) ∧ (p.transport f = .tcp ↔ ∃ l4, proto l4 6 ∧ l4 + 20 ≤ m)
    ∧ (∀ e, p.l5 f = some e ↔ ∃ l4, p.l4 = some l4 ∧ ((p.transport f = .udp ∧ e = l4 + 8)
        ∨ (p.transport f = .tcp ∧ e = l4 + 4 * (byteAt f (l4 + 12) / 16))))
    ∧ (∀ v, p.ds f = some v ↔ ∃ l4, (p.net = .ipv4 l4 ∧ v = byteAt f (p.l3 + 1))
        ∨ (p.net = .ipv6 l4 ∧ v = 16 * (byteAt f p.l3 % 16) + byteAt f (p.l3 + 1) / 16))
    ∧ ∀ (unicast : Option Word) (e : PtpMsg), ptpMessage p f unicast = some e ↔
      e.start + 1 ≤ m ∧ e.kind = byteAt f e.start % 16
        ∧ ((p.et = some 0x88F7 ∧ e.start = p.l3 ∧ e.via = .ethernet)
          ∨ ∃ l4, p.transport f = .udp ∧ (be16 f (l4 + 2) = 319 ∨ be16 f (l4 + 2) = 320) ∧ e.start = l4 + 8
            ∧ ((p.net = .ipv4 l4 ∧ e.via = .ipv4 l4 ∧ (slice f (p.l3 + 16) 4 = [224, 0, 1, 129]
                ∨ slice f (p.l3 + 16) 4 = [224, 0, 0, 107] ∨ ∃ u, unicast = some u ∧ be32 f (p.l3 + 16) = u.toNat))
              ∨ (p.net = .ipv6 l4 ∧ e.via = .ipv6
                ∧ ((∃ x : Byte, x.toNat < 16 ∧ slice f (p.l3 + 24) 16 = 0xFF :: x :: .replicate 12 0 ++ [0x01, 0x81])
                  ∨ slice f (p.l3 + 24) 16 = 0xFF :: 0x02 :: .replicate 13 0 ++ [0x6B])))))
  ∧ (∀ g : Option PtpMsg, eventKind g = g.bind fun e => if e.kind < 4 then some e.kind else none)
  ∧ (∀ (x : Device) (fr : TxFrame),
    let f := if fr.nocrc = false ∧ dmacfgTxcoen fr.conf.dmacfg = true then
      (checksumOffload fr.conf.stackedVlan fr.data).1 else fr.data
    (txImage x fr).ptp = ptpMessage (parseFrame fr.conf.stackedVlan f.length f) f
      (if ncrPtpUcEn fr.conf.ncr then some fr.conf.txPtpUnicast else none))
  ∧ ∀ (x : Device) (k : Fin 4),
    (∀ p : Parsed,
      let hit (j : Fin 4) := x.tidm[j].getLsbD 31 = true ∧ p.et = some (field x.tidm[j] 0 16)
      tidmHit x p = some k ↔ hit k ∧ ∀ j < k, ¬ hit j)
    ∧ ∀ f : List Byte, saHit x f = some k ↔ saMatch x f k = true ∧ ∀ j < k, saMatch x f j = false

/-- Address recognition. The hash folds the address in 6-bit windows: it is below 64, bit `i` is the exclusive or of
address bits `i`, `i+6`, ..., `i+42`, and the rule's three examples hold (43_classifier R410). A specific-address filter
matches exactly when its address is not all zero and every byte that its mask does not except equals the frame's source
or destination byte; filter 1 compares all six bytes of the destination (R413). The hash matches exactly when bit
`hash(DA)` of {HRT, HRB} is 1 and hash matching is enabled for the kind of address, group or individual (R411). A frame is
accepted exactly when CAF is 1, a filter matches, the hash matches, or it is a broadcast and NBC is 0 (R412). -/
def Obligations.AddressRecognition : Prop :=
  ((∀ b0 b1 b2 b3 b4 b5 : Byte,
      let v := b0.toNat + 2 ^ 8 * b1.toNat + 2 ^ 16 * b2.toNat + 2 ^ 24 * b3.toNat + 2 ^ 32 * b4.toNat
        + 2 ^ 40 * b5.toNat
      let h := addrHash [b0, b1, b2, b3, b4, b5]
      h < 64 ∧ ∀ i < 6, h.testBit i =
        (v.testBit i ^^ v.testBit (i + 6) ^^ v.testBit (i + 12) ^^ v.testBit (i + 18) ^^ v.testBit (i + 24)
          ^^ v.testBit (i + 30) ^^ v.testBit (i + 36) ^^ v.testBit (i + 42)))
    ∧ addrHash [0x01, 0x80, 0xC2, 0x00, 0x00, 0x0E] = 58
    ∧ addrHash [0xFF, 0xFF, 0xFF, 0xFF, 0xFF, 0xFF] = 0
    ∧ addrHash [0x01, 0x00, 0x5E, 0x00, 0x01, 0x81] = 2)
    ∧ (∀ (x : Device) (f : List Byte) (k : Fin 4), 12 ≤ f.length →
    (saMatch x f k = true ↔
      filterAddr x.sab[k] x.sat[k] ≠ [0, 0, 0, 0, 0, 0]
        ∧ ∀ i < 6, (k ≠ 0 ∧ x.sat[k].getLsbD (24 + i) = true)
          ∨ (filterAddr x.sab[k] x.sat[k]).getD i 0
            = f.getD (if k ≠ 0 ∧ x.sat[k].getLsbD 16 = true then 6 + i else i) 0))
    ∧ ∀ (x : Device) (f : List Byte), 6 ≤ f.length →
      let h := addrHash f
      let group := (f.getD 0 0).getLsbD 0
      (hashHit x f = true ↔ (if h < 32 then x.hrb.getLsbD h else x.hrt.getLsbD (h - 32)) = true
          ∧ (if group then x.ncfgr.getLsbD 6 else x.ncfgr.getLsbD 7) = true)
        ∧ (accepted x f = true ↔ x.ncfgr.getLsbD 4 = true ∨ (∃ k, saMatch x f k = true) ∨ hashHit x f = true
          ∨ ((∀ i < 6, f.getD i 0 = 0xFF#8) ∧ x.ncfgr.getLsbD 5 = false))
        ∧ addrHash f = addrHash (f.take 6)

/-- When the screeners match. A Type-1 filter is active with UDP_EN or DSTC_EN and matches where each enabled test holds: the
UDP destination port, the DS value (43_classifier R430). A Type-2 filter is active with any of its five enables and matches
where each enabled test holds: the ethertype, the priority of the first tag, the three compares (R433). A compare takes its
base from OFFTYPE and compares 4 bytes whole or 2 bytes under the mask, inside the frame without its FCS (R432). A test
whose register does not exist has the drawn result (R431). -/
def Obligations.ScreenerMatches : Prop :=
  (∀ w : Word, (t1Active w = true ↔ w.getLsbD 29 = true ∨ w.getLsbD 28 = true)
      ∧ (t2Active w = true ↔ ∃ b ∈ [12, 8, 18, 24, 30], w.getLsbD b = true))
    ∧ (∀ (w : Word) (p : Parsed) (f : List Byte), t1Match w p f = true ↔
      (w.getLsbD 29 = true → p.transport f = .udp ∧ ∃ l4, p.l4 = some l4 ∧ be16 f (l4 + 2) = field w 12 16)
        ∧ (w.getLsbD 28 = true → p.ds f = some (field w 4 8)))
    ∧ (∀ (w0 w1 : Word) (p : Parsed) (f : List Byte), compareTest w0 w1 p f = true ↔
      ∃ b, ((field w1 7 2 = 0 ∧ b = 0) ∨ (field w1 7 2 = 1 ∧ p.et ≠ none ∧ b = p.l3)
          ∨ (field w1 7 2 = 2 ∧ p.l4 = some b) ∨ (field w1 7 2 = 3 ∧ p.l5 f = some b))
        ∧ (w1.getLsbD 9 = true → b + field w1 0 7 + 4 ≤ p.len ∧ be32 f (b + field w1 0 7) = w0.toNat)
        ∧ (w1.getLsbD 9 = false → b + field w1 0 7 + 2 ≤ p.len
          ∧ be16 f (b + field w1 0 7) &&& field w0 0 16 = field w0 16 16 &&& field w0 0 16))
    ∧ ∀ (x : Device) (nEth nCmp : Nat) (tests : List Bool) (n : Nat) (w : Word) (p : Parsed) (f : List Byte),
      t2Match x nEth nCmp tests n w p f = true ↔
        (w.getLsbD 12 = true →
            if field w 9 3 < nEth then p.et = some (field x.ethtype[Fin.ofNat 8 (field w 9 3)] 0 16)
            else tests.getD (4 * n) false = true)
          ∧ (w.getLsbD 8 = true → 1 ≤ p.tags ∧ p.pcp = field w 4 3)
          ∧ ∀ e ∈ [(18, 13, 1), (24, 19, 2), (30, 25, 3)], w.getLsbD e.1 = true →
            let i := field w e.2.1 5
            if i < nCmp then compareTest x.cmpW0[Fin.ofNat 32 i] x.cmpW1[Fin.ofNat 32 i] p f = true
            else tests.getD (4 * n + e.2.2) false = true

/-- The first matching filter wins, the lowest number within a class, Type-1 before Type-2, and a frame no filter matches
goes to queue 0; a queue that exists is taken as it is, and one that does not is the draw (43_classifier R440). -/
def Obligations.ScreenersInOrder : Prop :=
  ∀ (c : Params) (x : Device) (tests : List Bool) (p : Parsed) (f : List Byte),
    let hit1 (n : Fin 16) := t1Active x.t1[n] = true ∧ t1Match x.t1[n] p f = true
    let hit2 (n : Fin 16) := t2Active x.t2[n] = true ∧ t2Match x c.nEth c.nCmp tests n.val x.t2[n] p f = true
    (∀ n : Fin 16, n.val < c.nT1 → hit1 n → (∀ k < n, ¬ hit1 k) →
        screen c x tests p f = if x.t1[n].getLsbD 30 then .drop else .route (field x.t1[n] 0 4))
      ∧ (∀ n : Fin 16, n.val < c.nT2 → (∀ k : Fin 16, k.val < c.nT1 → ¬ hit1 k) → hit2 n → (∀ k < n, ¬ hit2 k) →
        screen c x tests p f = if x.t2[n].getLsbD 31 then .drop else .route (field x.t2[n] 0 4))
      ∧ ((∀ k : Fin 16, k.val < c.nT1 → ¬ hit1 k) → (∀ k : Fin 16, k.val < c.nT2 → ¬ hit2 k) →
        screen c x tests p f = .route 0)
      ∧ ∀ n v draw, n ≤ 4 → (v < n → (targetQueue n draw (.route v)).map Fin.val = some v)
        ∧ (n ≤ v → targetQueue n draw (.route v) = draw.map (Fin.ofNat 4)) ∧ targetQueue n draw .drop = none

/-! ### The merge sublayer -/

/-- The steps of the verify handshake, each where it is enabled and where it is ignored (45_mmsl R529-R533): a step of this
machine that is not enabled, and a packet that is ignored, leave the state as it is (log 3). The timeout is
enabled by waiting alone, in a state that does not verify too: R530 to the letter, where R521 lists no such change, in
states that no run reaches (log 29). -/
def Obligations.VerifySteps : Prop :=
  ∀ (m : Mac) (s : State),
    let y := s.mmsl m
    (y.vstat = .verifying → y.waiting = false → y.vcount < s.cfg.verifyLimit →
        runInput (.mmSendVerify m) s = .next { s.setMmsl m { y with vcount := y.vcount + 1, waiting := true } with
          lineOut := s.lineOut ++ [.verify m] })
      ∧ (y.vstat ≠ .verifying ∨ y.waiting = true ∨ s.cfg.verifyLimit ≤ y.vcount →
        runInput (.mmSendVerify m) s = .next s)
      ∧ (y.waiting = false → runInput (.mmTimeout m) s = .next s)
      ∧ (y.waiting = true → y.vcount ≠ s.cfg.verifyLimit →
        runInput (.mmTimeout m) s = .next (s.setMmsl m { y with waiting := false }))
      ∧ (y.waiting = true → y.vcount = s.cfg.verifyLimit →
        runInput (.mmTimeout m) s = .next (s.setMmsl m { y with
          waiting := false, vstat := .failed
          intStatus := if y.vstat = .failed then y.intStatus else y.intStatus ||| 1#32 }))
      ∧ (y.vstat = .verifying → runInput (.mmRxRespond m) s = .next (s.setMmsl m { y with
          vstat := .succeeded, waiting := false, intStatus := y.intStatus ||| 1#32 }))
      ∧ (y.vstat ≠ .verifying → runInput (.mmRxRespond m) s = .next s)
      ∧ (mmPen y.control = true →
        runInput (.mmRxVerify m) s = .next (s.setMmsl m { y with respondOwed := y.respondOwed + 1 }))
      ∧ (mmPen y.control = false → runInput (.mmRxVerify m) s = .next s)
      ∧ (0 < y.respondOwed → runInput (.mmSendRespond m) s
          = .next { s.setMmsl m { y with respondOwed := y.respondOwed - 1 } with
              lineOut := s.lineOut ++ [.respond m] })
      ∧ (y.respondOwed = 0 → runInput (.mmSendRespond m) s = .next s)

/-- VCHG is set by every write (log 30) or step that gives VSTAT a different value, AERR by every frame counted as a reassembly
error, which counts in MMSL_ASS_ERR (at all ones: log 24), and neither is cleared but by a read of MMSL_INT_STATUS or
by reset (45_mmsl R534). -/
def Obligations.MmslInterruptStatus : Prop :=
  (∀ (i : Input) (s t : State) (m : Mac), runInput i s = .next t → i ≠ .hwReset →
      ((t.mmsl m).vstat ≠ (s.mmsl m).vstat → (t.mmsl m).intStatus.getLsbD 0 = true)
        ∧ ∀ b < 2, (s.mmsl m).intStatus.getLsbD b = true → (t.mmsl m).intStatus.getLsbD b = true
          ∨ ∃ d, macOf d = m ∧ d.hasMmsl = true ∧ accessOf i = some (.mmslIntStatus d .read))
    ∧ ∀ (m : Mac) (a : Arrival) (dr : RxDraws) (s : State), a.cls = .preemptable → a.aerr = true →
      arrivalOffered a (s.mmsl m) = true → ncrLbLocal (s.dev (rxTarget s m a.cls)).ncr = false →
      rxDrawsInSet dr (s.cfg.nQueues (rxTarget s m a.cls)) = true →
      ∃ t, runInput (.rxFrame m a dr) s = .next t ∧ (t.mmsl m).intStatus.getLsbD 1 = true
        ∧ (t.mmsl m).assErr = bump (s.mmsl m).assErr 1

/-- The counters of the MMSL. A preemptable frame that the line may offer, in `k` fragments, adds `k - 1` to MMSL_FRAG_RX;
one reassembled from two or more adds 1 to MMSL_ASS_OK; one that fails adds 1 to MMSL_ASS_ERR, sets AERR and reaches no
device; an express frame counts nothing (45_mmsl R543-R545). A completed transmission of a preemptable frame adds `k - 1`
to MMSL_FRAG_TX, any other nothing (R542), in local loopback too (log 22). No other field of an MMSL changes. All four
counters go on at all ones as the statistics do (log 24). -/
def Obligations.MmslCounters : Prop :=
  (∀ (m : Mac) (a : Arrival) (dr : RxDraws) (s t : State), runInput (.rxFrame m a dr) s = .next t →
    let x := s.dev (rxTarget s m a.cls)
    arrivalOffered a (s.mmsl m) = true → ncrLbLocal x.ncr = false →
    rxDrawsInSet dr (s.cfg.nQueues (rxTarget s m a.cls)) = true →
    t.mmsl m = (if a.cls = .preemptable then mmslAccounted (s.mmsl m) a.frags a.aerr else s.mmsl m)
      ∧ (∀ n, n ≠ m → t.mmsl n = s.mmsl n)
      ∧ (a.aerr = true → (∀ d, t.dev d = s.dev d) ∧ t.mem = s.mem))
  ∧ ∀ (d : Dev) (q : Fin 4) (dr : TxDraws) (s t : State) (fr : TxFrame), ((s.dev d).queue q).inflight = some fr →
    txDrawsInSet dr s d fr (txImage (s.dev d) fr).frame.length = true → runInput (.txDone d q dr) s = .next t →
    let mm := s.mmsl (macOf d)
    t.mmsl (macOf d) = (if outcomeIsOk (txOutcome fr dr.outcome) = true ∧ txClass s d = .preemptable then
        { mm with fragTx := bump mm.fragTx (dr.frags - 1) } else mm)
      ∧ ∀ n, n ≠ macOf d → t.mmsl n = s.mmsl n

/-! ### Memory and the host -/

/-- Words are little-endian: a stored word reads back, its bytes lie from the low address up, and every other byte stays
(20_memory R104). -/
def Obligations.MemoryWords : Prop :=
  ∀ (m : Memory) (a v : Word),
    Memory.read32 (Memory.write32 m a v) a = v
      ∧ Memory.read (Memory.write32 m a v) a.toNat = v.extractLsb' 0 8
      ∧ Memory.read (Memory.write32 m a v) (a + 1).toNat = v.extractLsb' 8 8
      ∧ Memory.read (Memory.write32 m a v) (a + 2).toNat = v.extractLsb' 16 8
      ∧ Memory.read (Memory.write32 m a v) (a + 3).toNat = v.extractLsb' 24 8
      ∧ ∀ b, ¬ inWord a b → Memory.read (Memory.write32 m a v) b = Memory.read m b

/-- Host accesses to memory (70_reset R706). A store to a hardware-owned slot of an enabled ring, one whose direction is
enabled and whose queue has QDIS = 0 (log 32), or to the buffer it names, is a fault; any other store, so every store while
the directions are disabled, changes its own bytes only; it is one step whatever its length, and ownership is that of memory
before it (log 33); a load returns what memory holds and changes nothing. An address the
platform does not back is like any other (log 13); accesses past the end of memory are left out here (log 15); the ring
pointers are aligned, as every step keeps them. -/
def Obligations.HostAccesses : Prop :=
  (∀ (a : Word) (bs : List Byte) (s : State), a.toNat + bs.length ≤ 2 ^ 32 → s.PointersAligned →
      (TouchesOwned s a.toNat bs.length → runInput (.hostStore a bs) s = .fault .hostTouchedHardwareOwned)
      ∧ (¬ TouchesOwned s a.toNat bs.length → ∃ m, runInput (.hostStore a bs) s = .next { s with mem := m }
        ∧ ∀ b, Memory.read m b
          = if a.toNat ≤ b ∧ b < a.toNat + bs.length then bs.getD (b - a.toNat) 0 else Memory.read s.mem b))
    ∧ ∀ (a : Word) (s : State), a.toNat + 4 ≤ 2 ^ 32 →
      runInput (.hostLoad a) s = .next { s with rdata := Memory.read32 s.mem a }
end

