-- ==== Sys2Proof/Laws/Memory.lean ====
section
/-! SUPPORT. Memory: what a write leaves, and that every memory operation keeps the canonical form. -/

namespace Sys2Proof.Machine

/-! ### Reads after writes -/

@[simp] theorem Memory.read_nil (a : Nat) : Memory.read [] a = Config.unwrittenByte := rfl

theorem Memory.read_erase (m : Memory) (a b : Nat) :
    Memory.read (Memory.erase m a) b = if b = a then Config.unwrittenByte else Memory.read m b := by
  induction m with
  | nil => simp [Memory.erase, Memory.read]
  | cons c rest ih =>
    have hrest : Memory.read (List.filter (fun c => decide (c.1 ≠ a)) rest) b =
        if b = a then Config.unwrittenByte else Memory.read rest b := ih
    by_cases hc : c.1 = a
    · simp only [Memory.erase, List.filter_cons, hc, ne_eq, not_true_eq_false, decide_false, if_false,
        Bool.false_eq_true]
      simp only [ne_eq] at hrest
      rw [hrest]
      by_cases hb : b = a
      · simp [hb]
      · have : ¬ a = b := fun h => hb h.symm
        simp [hb, Memory.read, hc, this]
    · simp only [Memory.erase, List.filter_cons, hc, ne_eq, not_false_eq_true, decide_true, if_true]
      simp only [ne_eq] at hrest
      simp only [Memory.read, hrest]
      by_cases hb : c.1 = b
      · have : ¬ b = a := fun h => hc (hb.trans h)
        simp [hb, this]
      · simp [hb]

theorem Memory.read_insert (m : Memory) (a b : Nat) (v : Byte) (h : ∀ c ∈ m, c.1 ≠ a) :
    Memory.read (Memory.insert a v m) b = if b = a then v else Memory.read m b := by
  induction m with
  | nil =>
    by_cases hb : b = a
    · simp [Memory.insert, Memory.read, hb]
    · have : ¬ a = b := fun e => hb e.symm
      simp [Memory.insert, Memory.read, hb, this]
  | cons c rest ih =>
    have hc : c.1 ≠ a := h c (by simp)
    have hr := ih fun d hd => h d (by simp [hd])
    by_cases hlt : a < c.1
    · by_cases hb : b = a
      · simp [Memory.insert, hlt, Memory.read, hb]
      · have : ¬ a = b := fun e => hb e.symm
        simp [Memory.insert, hlt, Memory.read, hb, this]
    · simp only [Memory.insert, hlt, if_false, Memory.read, hr]
      by_cases hb : c.1 = b
      · have : ¬ b = a := fun e => hc (hb.trans e)
        simp [hb, this]
      · simp [hb]

theorem Memory.mem_erase_ne (m : Memory) (a : Nat) : ∀ c ∈ Memory.erase m a, c.1 ≠ a := by
  intro c hc
  simpa [Memory.erase] using (List.mem_filter.mp hc).2

/-- A write changes exactly one byte. -/
theorem Memory.read_write (m : Memory) (a b : Nat) (v : Byte) :
    Memory.read (Memory.write m a v) b = if b = a then v else Memory.read m b := by
  unfold Memory.write
  split
  · next h => rw [Memory.read_erase, h]
  · rw [Memory.read_insert _ _ _ _ (Memory.mem_erase_ne m a), Memory.read_erase]
    split <;> simp_all

@[simp] theorem Memory.read_write_self (m : Memory) (a : Nat) (v : Byte) :
    Memory.read (Memory.write m a v) a = v := by
  simp [Memory.read_write]

theorem Memory.read_write_of_ne (m : Memory) (a b : Nat) (v : Byte) (h : b ≠ a) :
    Memory.read (Memory.write m a v) b = Memory.read m b := by
  simp [Memory.read_write, h]

/-- A word write leaves every byte outside the word. -/
theorem Memory.read_write32_of_ne (m : Memory) (a : Word) (v : Word) (b : Nat)
    (h0 : b ≠ a.toNat) (h1 : b ≠ (a + 1).toNat) (h2 : b ≠ (a + 2).toNat) (h3 : b ≠ (a + 3).toNat) :
    Memory.read (Memory.write32 m a v) b = Memory.read m b := by
  rw [Memory.write32, Memory.read_write_of_ne _ _ _ _ h3, Memory.read_write_of_ne _ _ _ _ h2,
    Memory.read_write_of_ne _ _ _ _ h1, Memory.read_write_of_ne _ _ _ _ h0]

/-- Word writes leave every byte outside their words. -/
theorem Memory.read_writeWords_of_ne (ws : List (Word × Word)) (m : Memory) (b : Nat)
    (h : ∀ w ∈ ws, b ≠ w.1.toNat ∧ b ≠ (w.1 + 1).toNat ∧ b ≠ (w.1 + 2).toNat ∧ b ≠ (w.1 + 3).toNat) :
    Memory.read (Memory.writeWords m ws) b = Memory.read m b := by
  induction ws generalizing m with
  | nil => rfl
  | cons w rest ih =>
    have hw := h w (by simp)
    rw [Memory.writeWords, ih _ fun x hx => h x (by simp [hx]),
      Memory.read_write32_of_ne m w.1 w.2 b hw.1 hw.2.1 hw.2.2.1 hw.2.2.2]

/-- What a byte-list write leaves at an address. -/
theorem Memory.read_writeBytes (bs : List Byte) (m : Memory) (a b : Nat) :
    Memory.read (Memory.writeBytes m a bs) b =
      if a ≤ b ∧ b < a + bs.length then bs.getD (b - a) 0 else Memory.read m b := by
  induction bs generalizing m a with
  | nil => simp [Memory.writeBytes]
  | cons x rest ih =>
    rw [Memory.writeBytes, ih]
    by_cases hin : a + 1 ≤ b ∧ b < a + 1 + rest.length
    · have h1 : a ≤ b ∧ b < a + (x :: rest).length := ⟨by omega, by simp only [List.length_cons]; omega⟩
      obtain ⟨k, hk⟩ : ∃ k, b - a = k + 1 := ⟨b - a - 1, by omega⟩
      have h2 : b - (a + 1) = k := by omega
      rw [if_pos hin, if_pos h1, hk, h2]
      simp
    · rw [if_neg hin, Memory.read_write]
      by_cases hb : b = a
      · subst hb
        simp
      · have h1 : ¬ (a ≤ b ∧ b < a + (x :: rest).length) := by simp only [List.length_cons]; omega
        rw [if_neg h1, if_neg hb]

/-! ### The canonical form -/

/-- Every listed address lies above `b`. -/
def Memory.Above (b : Nat) (m : Memory) : Prop := ∀ c ∈ m, b < c.1

theorem Memory.wf_cons (c : Host.Cell) (m : Memory) :
    Memory.wf (c :: m) = true ↔ Memory.Above c.1 m ∧ c.2 ≠ Config.unwrittenByte ∧ Memory.wf m = true := by
  induction m generalizing c with
  | nil => simp [Memory.wf, Memory.Above]
  | cons e rest ih =>
    have he := ih e
    rw [Memory.wf]
    simp only [Bool.and_eq_true, decide_eq_true_eq]
    constructor
    · rintro ⟨⟨hlt, hne⟩, hwf⟩
      refine ⟨fun d hd => ?_, hne, hwf⟩
      rcases List.mem_cons.mp hd with rfl | hd
      · exact hlt
      · exact lt_trans hlt ((he.mp hwf).1 d hd)
    · rintro ⟨hab, hne, hwf⟩
      exact ⟨⟨hab e (by simp), hne⟩, hwf⟩

theorem Memory.wf_erase (m : Memory) (a : Nat) (h : Memory.wf m = true) : Memory.wf (Memory.erase m a) = true := by
  induction m with
  | nil => rfl
  | cons c rest ih =>
    obtain ⟨hab, hne, hr⟩ := (Memory.wf_cons c rest).mp h
    have hrest := ih hr
    simp only [Memory.erase, List.filter_cons] at hrest ⊢
    split
    · exact (Memory.wf_cons _ _).mpr ⟨fun d hd => hab d (List.mem_filter.mp hd).1, hne, hrest⟩
    · exact hrest

theorem Memory.mem_insert (m : Memory) (a : Nat) (v : Byte) (d : Host.Cell) (h : d ∈ Memory.insert a v m) :
    d = (a, v) ∨ d ∈ m := by
  induction m with
  | nil => exact .inl (by simpa [Memory.insert] using h)
  | cons c rest ih =>
    simp only [Memory.insert] at h
    split at h
    · rcases List.mem_cons.mp h with rfl | h
      · exact .inl rfl
      · exact .inr h
    · rcases List.mem_cons.mp h with rfl | h
      · exact .inr (by simp)
      · rcases ih h with rfl | h
        · exact .inl rfl
        · exact .inr (by simp [h])

theorem Memory.wf_insert (m : Memory) (a : Nat) (v : Byte) (h : Memory.wf m = true)
    (hv : v ≠ Config.unwrittenByte) (hm : ∀ c ∈ m, c.1 ≠ a) : Memory.wf (Memory.insert a v m) = true := by
  induction m with
  | nil => simp [Memory.insert, Memory.wf, hv]
  | cons c rest ih =>
    obtain ⟨hab, hne, hr⟩ := (Memory.wf_cons c rest).mp h
    simp only [Memory.insert]
    split
    · next hlt =>
      refine (Memory.wf_cons _ _).mpr ⟨fun d hd => ?_, hv, h⟩
      rcases List.mem_cons.mp hd with rfl | hd
      · exact hlt
      · exact lt_trans hlt (hab d hd)
    · next hlt =>
      have hca : c.1 < a := by
        have := hm c (by simp)
        omega
      refine (Memory.wf_cons _ _).mpr ⟨fun d hd => ?_, hne, ih hr fun d hd => hm d (by simp [hd])⟩
      rcases Memory.mem_insert rest a v d hd with rfl | hd
      · exact hca
      · exact hab d hd

/-- A write keeps the canonical form. -/
theorem Memory.wf_write (m : Memory) (a : Nat) (v : Byte) (h : Memory.wf m = true) :
    Memory.wf (Memory.write m a v) = true := by
  unfold Memory.write
  split
  · exact Memory.wf_erase m a h
  · next hv => exact Memory.wf_insert _ a v (Memory.wf_erase m a h) hv (Memory.mem_erase_ne m a)

theorem Memory.wf_write32 (m : Memory) (a v : Word) (h : Memory.wf m = true) :
    Memory.wf (Memory.write32 m a v) = true :=
  Memory.wf_write _ _ _ (Memory.wf_write _ _ _ (Memory.wf_write _ _ _ (Memory.wf_write _ _ _ h)))

theorem Memory.wf_writeBytes (bs : List Byte) (m : Memory) (a : Nat) (h : Memory.wf m = true) :
    Memory.wf (Memory.writeBytes m a bs) = true := by
  induction bs generalizing m a with
  | nil => exact h
  | cons b rest ih => exact ih _ _ (Memory.wf_write m a b h)

theorem Memory.wf_writeWords (ws : List (Word × Word)) (m : Memory) (h : Memory.wf m = true) :
    Memory.wf (Memory.writeWords m ws) = true := by
  induction ws generalizing m with
  | nil => exact h
  | cons w rest ih => exact ih _ (Memory.wf_write32 m w.1 w.2 h)

theorem wf_dmaWriteBytes (o : Oracle) (bs : List Byte) (m : Memory) (n a : Nat) (h : Memory.wf m = true) :
    Memory.wf (dmaWriteBytes o m n a bs).1 = true := by
  induction bs generalizing m n a with
  | nil => exact h
  | cons b rest ih =>
    simp only [dmaWriteBytes]
    split
    · exact h
    · exact ih _ _ _ (Memory.wf_write m a b h)

theorem wf_dmaWriteWords (o : Oracle) (ws : List (Word × Word)) (m : Memory) (n : Nat) (h : Memory.wf m = true) :
    Memory.wf (dmaWriteWords o m n ws).1 = true := by
  induction ws generalizing m n with
  | nil => exact h
  | cons w rest ih =>
    simp only [dmaWriteWords]
    split
    · exact h
    · exact ih _ _ (Memory.wf_write32 m w.1 w.2 h)

/-! ### The oracle -/

/-- Without a bus error, the word writes are all done. -/
theorem dmaWriteWords_eq (o : Oracle) (ws : List (Word × Word)) (m : Memory) (n : Nat)
    (h : ∀ k a len, o.busErr k a len = false) : dmaWriteWords o m n ws = (Memory.writeWords m ws, ws.length) := by
  induction ws generalizing m n with
  | nil => rfl
  | cons w rest ih => simp [dmaWriteWords, h, ih, Memory.writeWords]

/-- Without a bus error, the bytes are all written. -/
theorem dmaWriteBytes_eq (o : Oracle) (bs : List Byte) (m : Memory) (n a : Nat)
    (h : ∀ k b len, o.busErr k b len = false) : dmaWriteBytes o m n a bs = (Memory.writeBytes m a bs, true) := by
  induction bs generalizing m n a with
  | nil => rfl
  | cons b rest ih => simp [dmaWriteBytes, h, ih, Memory.writeBytes]

/-- Without a bus error, a buffer read answers memory's bytes. -/
theorem dmaReadBytes_eq (o : Oracle) (m : Memory) (n a len : Nat) (h : ∀ k b l, o.busErr k b l = false) :
    dmaReadBytes o m n a len = some (Memory.readBytes m a len) := by
  have : ∀ len n a, o.anyBusErr n a len = false := by
    intro len
    induction len with
    | zero => intros; rfl
    | succ k ih => intro n a; simp [Oracle.anyBusErr, h, ih]
  simp [dmaReadBytes, this]

/-- An oracle that names no access and no hole answers every access. -/
@[simp] theorem Oracle.busErr_nil (n a len : Nat) : Oracle.busErr ⟨[], []⟩ n a len = false := rfl

end Sys2Proof.Machine
end

