-- ==== Sys2Proof/Laws/State.lean ====
section
/-! SUPPORT. The small lemmas of the state: what each update leaves of each field. -/

namespace Sys2Proof.Machine

/-! ### A device of the state -/

@[simp] theorem State.setDev_cfg (s : State) (d : Dev) (x : Device) : (s.setDev d x).cfg = s.cfg := by cases d <;> rfl
@[simp] theorem State.setDev_mmsl0 (s : State) (d : Dev) (x : Device) : (s.setDev d x).mmsl0 = s.mmsl0 := by cases d <;> rfl
@[simp] theorem State.setDev_mmsl1 (s : State) (d : Dev) (x : Device) : (s.setDev d x).mmsl1 = s.mmsl1 := by cases d <;> rfl
@[simp] theorem State.setDev_mem (s : State) (d : Dev) (x : Device) : (s.setDev d x).mem = s.mem := by cases d <;> rfl
@[simp] theorem State.setDev_lineOut (s : State) (d : Dev) (x : Device) : (s.setDev d x).lineOut = s.lineOut := by cases d <;> rfl
@[simp] theorem State.setDev_rdata (s : State) (d : Dev) (x : Device) : (s.setDev d x).rdata = s.rdata := by cases d <;> rfl
@[simp] theorem State.setDev_inputs (s : State) (d : Dev) (x : Device) : (s.setDev d x).inputs = s.inputs := by cases d <;> rfl
@[simp] theorem State.setDev_draws (s : State) (d : Dev) (x : Device) : (s.setDev d x).draws = s.draws := by cases d <;> rfl
@[simp] theorem State.setDev_mmsl (s : State) (d : Dev) (x : Device) (m : Mac) : (s.setDev d x).mmsl m = s.mmsl m := by
  cases d <;> cases m <;> rfl
@[simp] theorem State.modDev_cfg (s : State) (d : Dev) (f : Device → Device) : (s.modDev d f).cfg = s.cfg := by cases d <;> rfl
@[simp] theorem State.modDev_mmsl0 (s : State) (d : Dev) (f : Device → Device) : (s.modDev d f).mmsl0 = s.mmsl0 := by cases d <;> rfl
@[simp] theorem State.modDev_mmsl1 (s : State) (d : Dev) (f : Device → Device) : (s.modDev d f).mmsl1 = s.mmsl1 := by cases d <;> rfl
@[simp] theorem State.modDev_mem (s : State) (d : Dev) (f : Device → Device) : (s.modDev d f).mem = s.mem := by cases d <;> rfl
@[simp] theorem State.modDev_lineOut (s : State) (d : Dev) (f : Device → Device) : (s.modDev d f).lineOut = s.lineOut := by cases d <;> rfl
@[simp] theorem State.modDev_rdata (s : State) (d : Dev) (f : Device → Device) : (s.modDev d f).rdata = s.rdata := by cases d <;> rfl
@[simp] theorem State.modDev_inputs (s : State) (d : Dev) (f : Device → Device) : (s.modDev d f).inputs = s.inputs := by cases d <;> rfl
@[simp] theorem State.modDev_draws (s : State) (d : Dev) (f : Device → Device) : (s.modDev d f).draws = s.draws := by cases d <;> rfl
@[simp] theorem State.modDev_mmsl (s : State) (d : Dev) (f : Device → Device) (m : Mac) : (s.modDev d f).mmsl m = s.mmsl m := by
  cases d <;> cases m <;> rfl

@[simp] theorem State.dev_setDev_self (s : State) (d : Dev) (x : Device) : (s.setDev d x).dev d = x := by
  cases d <;> rfl

theorem State.dev_setDev_of_ne (s : State) (d e : Dev) (x : Device) (h : e ≠ d) :
    (s.setDev d x).dev e = s.dev e := by
  cases d <;> cases e <;> first | rfl | exact absurd rfl h

theorem State.dev_setDev (s : State) (d e : Dev) (x : Device) :
    (s.setDev d x).dev e = if e = d then x else s.dev e := by
  cases d <;> cases e <;> rfl

@[simp] theorem State.setDev_setDev (s : State) (d : Dev) (x y : Device) :
    (s.setDev d x).setDev d y = s.setDev d y := by
  cases d <;> rfl

@[simp] theorem State.setDev_dev (s : State) (d : Dev) : s.setDev d (s.dev d) = s := by
  cases d <;> rfl

@[simp] theorem State.dev_modDev_self (s : State) (d : Dev) (f : Device → Device) :
    (s.modDev d f).dev d = f (s.dev d) := State.dev_setDev_self s d _

theorem State.dev_modDev_of_ne (s : State) (d e : Dev) (f : Device → Device) (h : e ≠ d) :
    (s.modDev d f).dev e = s.dev e := State.dev_setDev_of_ne s d e _ h

theorem State.dev_modDev (s : State) (d e : Dev) (f : Device → Device) :
    (s.modDev d f).dev e = if e = d then f (s.dev d) else s.dev e := State.dev_setDev s d e _

@[simp] theorem State.dev_rdata (s : State) (v : Word) (d : Dev) : ({ s with rdata := v } : State).dev d = s.dev d := by
  cases d <;> rfl

@[simp] theorem State.dev_mem (s : State) (m : Memory) (d : Dev) : ({ s with mem := m } : State).dev d = s.dev d := by
  cases d <;> rfl

@[simp] theorem State.dev_inputs (s : State) (l : List Input) (d : Dev) :
    ({ s with inputs := l } : State).dev d = s.dev d := by
  cases d <;> rfl

@[simp] theorem State.dev_draws (s : State) (n : Nat) (d : Dev) : ({ s with draws := n } : State).dev d = s.dev d := by
  cases d <;> rfl

@[simp] theorem State.dev_lineOut (s : State) (l : List LineOut) (d : Dev) :
    ({ s with lineOut := l } : State).dev d = s.dev d := by
  cases d <;> rfl

@[simp] theorem State.mmsl_rdata (s : State) (v : Word) (m : Mac) : ({ s with rdata := v } : State).mmsl m = s.mmsl m := by
  cases m <;> rfl

@[simp] theorem State.mmsl_mem (s : State) (v : Memory) (m : Mac) : ({ s with mem := v } : State).mmsl m = s.mmsl m := by
  cases m <;> rfl

@[simp] theorem State.mmsl_inputs (s : State) (l : List Input) (m : Mac) :
    ({ s with inputs := l } : State).mmsl m = s.mmsl m := by
  cases m <;> rfl

@[simp] theorem State.mmsl_draws (s : State) (n : Nat) (m : Mac) : ({ s with draws := n } : State).mmsl m = s.mmsl m := by
  cases m <;> rfl

@[simp] theorem State.mmsl_lineOut (s : State) (l : List LineOut) (m : Mac) :
    ({ s with lineOut := l } : State).mmsl m = s.mmsl m := by
  cases m <;> rfl

/-! ### An MMSL of the state -/

@[simp] theorem State.setMmsl_cfg (s : State) (m : Mac) (y : Mmsl) : (s.setMmsl m y).cfg = s.cfg := by cases m <;> rfl
@[simp] theorem State.setMmsl_pmac0 (s : State) (m : Mac) (y : Mmsl) : (s.setMmsl m y).pmac0 = s.pmac0 := by cases m <;> rfl
@[simp] theorem State.setMmsl_emac0 (s : State) (m : Mac) (y : Mmsl) : (s.setMmsl m y).emac0 = s.emac0 := by cases m <;> rfl
@[simp] theorem State.setMmsl_pmac1 (s : State) (m : Mac) (y : Mmsl) : (s.setMmsl m y).pmac1 = s.pmac1 := by cases m <;> rfl
@[simp] theorem State.setMmsl_emac1 (s : State) (m : Mac) (y : Mmsl) : (s.setMmsl m y).emac1 = s.emac1 := by cases m <;> rfl
@[simp] theorem State.setMmsl_mem (s : State) (m : Mac) (y : Mmsl) : (s.setMmsl m y).mem = s.mem := by cases m <;> rfl
@[simp] theorem State.setMmsl_lineOut (s : State) (m : Mac) (y : Mmsl) : (s.setMmsl m y).lineOut = s.lineOut := by cases m <;> rfl
@[simp] theorem State.setMmsl_rdata (s : State) (m : Mac) (y : Mmsl) : (s.setMmsl m y).rdata = s.rdata := by cases m <;> rfl
@[simp] theorem State.setMmsl_inputs (s : State) (m : Mac) (y : Mmsl) : (s.setMmsl m y).inputs = s.inputs := by cases m <;> rfl
@[simp] theorem State.setMmsl_draws (s : State) (m : Mac) (y : Mmsl) : (s.setMmsl m y).draws = s.draws := by cases m <;> rfl
@[simp] theorem State.setMmsl_dev (s : State) (m : Mac) (y : Mmsl) (d : Dev) : (s.setMmsl m y).dev d = s.dev d := by
  cases m <;> cases d <;> rfl
@[simp] theorem modMmsl_cfg (s : State) (m : Mac) (f : Mmsl → Mmsl) : (modMmsl s m f).cfg = s.cfg := by cases m <;> rfl
@[simp] theorem modMmsl_pmac0 (s : State) (m : Mac) (f : Mmsl → Mmsl) : (modMmsl s m f).pmac0 = s.pmac0 := by cases m <;> rfl
@[simp] theorem modMmsl_emac0 (s : State) (m : Mac) (f : Mmsl → Mmsl) : (modMmsl s m f).emac0 = s.emac0 := by cases m <;> rfl
@[simp] theorem modMmsl_pmac1 (s : State) (m : Mac) (f : Mmsl → Mmsl) : (modMmsl s m f).pmac1 = s.pmac1 := by cases m <;> rfl
@[simp] theorem modMmsl_emac1 (s : State) (m : Mac) (f : Mmsl → Mmsl) : (modMmsl s m f).emac1 = s.emac1 := by cases m <;> rfl
@[simp] theorem modMmsl_mem (s : State) (m : Mac) (f : Mmsl → Mmsl) : (modMmsl s m f).mem = s.mem := by cases m <;> rfl
@[simp] theorem modMmsl_lineOut (s : State) (m : Mac) (f : Mmsl → Mmsl) : (modMmsl s m f).lineOut = s.lineOut := by cases m <;> rfl
@[simp] theorem modMmsl_rdata (s : State) (m : Mac) (f : Mmsl → Mmsl) : (modMmsl s m f).rdata = s.rdata := by cases m <;> rfl
@[simp] theorem modMmsl_inputs (s : State) (m : Mac) (f : Mmsl → Mmsl) : (modMmsl s m f).inputs = s.inputs := by cases m <;> rfl
@[simp] theorem modMmsl_draws (s : State) (m : Mac) (f : Mmsl → Mmsl) : (modMmsl s m f).draws = s.draws := by cases m <;> rfl
@[simp] theorem modMmsl_dev (s : State) (m : Mac) (f : Mmsl → Mmsl) (d : Dev) : (modMmsl s m f).dev d = s.dev d := by
  cases m <;> cases d <;> rfl

@[simp] theorem State.mmsl_setMmsl_self (s : State) (m : Mac) (y : Mmsl) : (s.setMmsl m y).mmsl m = y := by
  cases m <;> rfl

theorem State.mmsl_setMmsl (s : State) (m k : Mac) (y : Mmsl) :
    (s.setMmsl m y).mmsl k = if k = m then y else s.mmsl k := by
  cases m <;> cases k <;> rfl

@[simp] theorem mmsl_modMmsl_self (s : State) (m : Mac) (f : Mmsl → Mmsl) :
    (modMmsl s m f).mmsl m = f (s.mmsl m) := State.mmsl_setMmsl_self s m _

theorem mmsl_modMmsl (s : State) (m k : Mac) (f : Mmsl → Mmsl) :
    (modMmsl s m f).mmsl k = if k = m then f (s.mmsl m) else s.mmsl k := State.mmsl_setMmsl s m k _

/-! ### Memory and a device together -/

@[simp] theorem State.withDma_cfg (s : State) (d : Dev) (m : Memory) (x : Device) :
    (s.withDma d m x).cfg = s.cfg := by cases d <;> rfl
@[simp] theorem State.withDma_mmsl0 (s : State) (d : Dev) (m : Memory) (x : Device) :
    (s.withDma d m x).mmsl0 = s.mmsl0 := by cases d <;> rfl
@[simp] theorem State.withDma_mmsl1 (s : State) (d : Dev) (m : Memory) (x : Device) :
    (s.withDma d m x).mmsl1 = s.mmsl1 := by cases d <;> rfl
@[simp] theorem State.withDma_lineOut (s : State) (d : Dev) (m : Memory) (x : Device) :
    (s.withDma d m x).lineOut = s.lineOut := by cases d <;> rfl
@[simp] theorem State.withDma_rdata (s : State) (d : Dev) (m : Memory) (x : Device) :
    (s.withDma d m x).rdata = s.rdata := by cases d <;> rfl
@[simp] theorem State.withDma_inputs (s : State) (d : Dev) (m : Memory) (x : Device) :
    (s.withDma d m x).inputs = s.inputs := by cases d <;> rfl
@[simp] theorem State.withDma_draws (s : State) (d : Dev) (m : Memory) (x : Device) :
    (s.withDma d m x).draws = s.draws := by cases d <;> rfl
@[simp] theorem State.withDma_mem (s : State) (d : Dev) (m : Memory) (x : Device) : (s.withDma d m x).mem = m := rfl

theorem State.withDma_dev (s : State) (d e : Dev) (m : Memory) (x : Device) :
    (s.withDma d m x).dev e = if e = d then x else s.dev e := by
  cases d <;> cases e <;> rfl

@[simp] theorem State.withDma_mmsl (s : State) (d : Dev) (m : Memory) (x : Device) (k : Mac) :
    (s.withDma d m x).mmsl k = s.mmsl k := by
  cases d <;> cases k <;> rfl

/-! ### Queues of a device -/

@[simp] theorem Device.setQueue_ncr (x : Device) (q : Fin 4) (y : Queue) : (x.setQueue q y).ncr = x.ncr := rfl
@[simp] theorem Device.setQueue_ncfgr (x : Device) (q : Fin 4) (y : Queue) : (x.setQueue q y).ncfgr = x.ncfgr := rfl
@[simp] theorem Device.setQueue_dmacfg (x : Device) (q : Fin 4) (y : Queue) : (x.setQueue q y).dmacfg = x.dmacfg := rfl
@[simp] theorem Device.setQueue_tsr (x : Device) (q : Fin 4) (y : Queue) : (x.setQueue q y).tsr = x.tsr := rfl
@[simp] theorem Device.setQueue_rsr (x : Device) (q : Fin 4) (y : Queue) : (x.setQueue q y).rsr = x.rsr := rfl
@[simp] theorem Device.setQueue_jml (x : Device) (q : Fin 4) (y : Queue) : (x.setQueue q y).jml = x.jml := rfl
@[simp] theorem Device.setQueue_hrb (x : Device) (q : Fin 4) (y : Queue) : (x.setQueue q y).hrb = x.hrb := rfl
@[simp] theorem Device.setQueue_hrt (x : Device) (q : Fin 4) (y : Queue) : (x.setQueue q y).hrt = x.hrt := rfl
@[simp] theorem Device.setQueue_sab (x : Device) (q : Fin 4) (y : Queue) : (x.setQueue q y).sab = x.sab := rfl
@[simp] theorem Device.setQueue_sat (x : Device) (q : Fin 4) (y : Queue) : (x.setQueue q y).sat = x.sat := rfl
@[simp] theorem Device.setQueue_tidm (x : Device) (q : Fin 4) (y : Queue) : (x.setQueue q y).tidm = x.tidm := rfl
@[simp] theorem Device.setQueue_stackedVlan (x : Device) (q : Fin 4) (y : Queue) : (x.setQueue q y).stackedVlan = x.stackedVlan := rfl
@[simp] theorem Device.setQueue_rxPtpUnicast (x : Device) (q : Fin 4) (y : Queue) : (x.setQueue q y).rxPtpUnicast = x.rxPtpUnicast := rfl
@[simp] theorem Device.setQueue_txPtpUnicast (x : Device) (q : Fin 4) (y : Queue) : (x.setQueue q y).txPtpUnicast = x.txPtpUnicast := rfl
@[simp] theorem Device.setQueue_stats (x : Device) (q : Fin 4) (y : Queue) : (x.setQueue q y).stats = x.stats := rfl
@[simp] theorem Device.setQueue_octTx (x : Device) (q : Fin 4) (y : Queue) : (x.setQueue q y).octTx = x.octTx := rfl
@[simp] theorem Device.setQueue_octRx (x : Device) (q : Fin 4) (y : Queue) : (x.setQueue q y).octRx = x.octRx := rfl
@[simp] theorem Device.setQueue_octTxShadow (x : Device) (q : Fin 4) (y : Queue) : (x.setQueue q y).octTxShadow = x.octTxShadow := rfl
@[simp] theorem Device.setQueue_octRxShadow (x : Device) (q : Fin 4) (y : Queue) : (x.setQueue q y).octRxShadow = x.octRxShadow := rfl
@[simp] theorem Device.setQueue_tsu (x : Device) (q : Fin 4) (y : Queue) : (x.setQueue q y).tsu = x.tsu := rfl
@[simp] theorem Device.setQueue_ptp (x : Device) (q : Fin 4) (y : Queue) : (x.setQueue q y).ptp = x.ptp := rfl
@[simp] theorem Device.setQueue_txBdControl (x : Device) (q : Fin 4) (y : Queue) : (x.setQueue q y).txBdControl = x.txBdControl := rfl
@[simp] theorem Device.setQueue_rxBdControl (x : Device) (q : Fin 4) (y : Queue) : (x.setQueue q y).rxBdControl = x.rxBdControl := rfl
@[simp] theorem Device.setQueue_rxBufSize (x : Device) (q : Fin 4) (y : Queue) : (x.setQueue q y).rxBufSize = x.rxBufSize := rfl
@[simp] theorem Device.setQueue_t1 (x : Device) (q : Fin 4) (y : Queue) : (x.setQueue q y).t1 = x.t1 := rfl
@[simp] theorem Device.setQueue_t2 (x : Device) (q : Fin 4) (y : Queue) : (x.setQueue q y).t2 = x.t2 := rfl
@[simp] theorem Device.setQueue_ethtype (x : Device) (q : Fin 4) (y : Queue) : (x.setQueue q y).ethtype = x.ethtype := rfl
@[simp] theorem Device.setQueue_cmpW0 (x : Device) (q : Fin 4) (y : Queue) : (x.setQueue q y).cmpW0 = x.cmpW0 := rfl
@[simp] theorem Device.setQueue_cmpW1 (x : Device) (q : Fin 4) (y : Queue) : (x.setQueue q y).cmpW1 = x.cmpW1 := rfl
@[simp] theorem Device.setQueue_haltReq (x : Device) (q : Fin 4) (y : Queue) : (x.setQueue q y).haltReq = x.haltReq := rfl

@[simp] theorem Device.queue_setQueue_self (x : Device) (q : Fin 4) (y : Queue) : (x.setQueue q y).queue q = y := by
  simp [Device.queue, Device.setQueue]

theorem Device.queue_setQueue (x : Device) (q p : Fin 4) (y : Queue) :
    (x.setQueue q y).queue p = if p = q then y else x.queue p := by
  by_cases h : p = q
  · subst h; simp
  · have h' : q.val ≠ p.val := fun e => h (Fin.ext e.symm)
    simp [Device.queue, Device.setQueue, h, h']

theorem Device.queue_modQueue (x : Device) (q p : Fin 4) (f : Queue → Queue) :
    (x.modQueue q f).queue p = if p = q then f (x.queue q) else x.queue p := Device.queue_setQueue x q p _

@[simp] theorem Device.queue_modQueue_self (x : Device) (q : Fin 4) (f : Queue → Queue) :
    (x.modQueue q f).queue q = f (x.queue q) := Device.queue_setQueue_self x q _

@[simp] theorem Device.queue_mapQueues (x : Device) (f : Queue → Queue) (q : Fin 4) :
    (x.mapQueues f).queue q = f (x.queue q) := by
  match q with
  | 0 => rfl
  | 1 => rfl
  | 2 => rfl
  | 3 => rfl

theorem Device.queue_irq (x : Device) (q p : Fin 4) (b : Word) :
    (x.irq q b).queue p = if p = q then { x.queue q with isr := (x.queue q).isr ||| b } else x.queue p :=
  Device.queue_modQueue x q p _

@[simp] theorem Device.modQueue_ncr (x : Device) (q : Fin 4) (f : Queue → Queue) : (x.modQueue q f).ncr = x.ncr := rfl
@[simp] theorem Device.modQueue_ncfgr (x : Device) (q : Fin 4) (f : Queue → Queue) : (x.modQueue q f).ncfgr = x.ncfgr := rfl
@[simp] theorem Device.modQueue_dmacfg (x : Device) (q : Fin 4) (f : Queue → Queue) : (x.modQueue q f).dmacfg = x.dmacfg := rfl
@[simp] theorem Device.modQueue_tsr (x : Device) (q : Fin 4) (f : Queue → Queue) : (x.modQueue q f).tsr = x.tsr := rfl
@[simp] theorem Device.modQueue_rsr (x : Device) (q : Fin 4) (f : Queue → Queue) : (x.modQueue q f).rsr = x.rsr := rfl
@[simp] theorem Device.modQueue_jml (x : Device) (q : Fin 4) (f : Queue → Queue) : (x.modQueue q f).jml = x.jml := rfl
@[simp] theorem Device.modQueue_hrb (x : Device) (q : Fin 4) (f : Queue → Queue) : (x.modQueue q f).hrb = x.hrb := rfl
@[simp] theorem Device.modQueue_hrt (x : Device) (q : Fin 4) (f : Queue → Queue) : (x.modQueue q f).hrt = x.hrt := rfl
@[simp] theorem Device.modQueue_sab (x : Device) (q : Fin 4) (f : Queue → Queue) : (x.modQueue q f).sab = x.sab := rfl
@[simp] theorem Device.modQueue_sat (x : Device) (q : Fin 4) (f : Queue → Queue) : (x.modQueue q f).sat = x.sat := rfl
@[simp] theorem Device.modQueue_tidm (x : Device) (q : Fin 4) (f : Queue → Queue) : (x.modQueue q f).tidm = x.tidm := rfl
@[simp] theorem Device.modQueue_stackedVlan (x : Device) (q : Fin 4) (f : Queue → Queue) : (x.modQueue q f).stackedVlan = x.stackedVlan := rfl
@[simp] theorem Device.modQueue_rxPtpUnicast (x : Device) (q : Fin 4) (f : Queue → Queue) : (x.modQueue q f).rxPtpUnicast = x.rxPtpUnicast := rfl
@[simp] theorem Device.modQueue_txPtpUnicast (x : Device) (q : Fin 4) (f : Queue → Queue) : (x.modQueue q f).txPtpUnicast = x.txPtpUnicast := rfl
@[simp] theorem Device.modQueue_stats (x : Device) (q : Fin 4) (f : Queue → Queue) : (x.modQueue q f).stats = x.stats := rfl
@[simp] theorem Device.modQueue_octTx (x : Device) (q : Fin 4) (f : Queue → Queue) : (x.modQueue q f).octTx = x.octTx := rfl
@[simp] theorem Device.modQueue_octRx (x : Device) (q : Fin 4) (f : Queue → Queue) : (x.modQueue q f).octRx = x.octRx := rfl
@[simp] theorem Device.modQueue_octTxShadow (x : Device) (q : Fin 4) (f : Queue → Queue) : (x.modQueue q f).octTxShadow = x.octTxShadow := rfl
@[simp] theorem Device.modQueue_octRxShadow (x : Device) (q : Fin 4) (f : Queue → Queue) : (x.modQueue q f).octRxShadow = x.octRxShadow := rfl
@[simp] theorem Device.modQueue_tsu (x : Device) (q : Fin 4) (f : Queue → Queue) : (x.modQueue q f).tsu = x.tsu := rfl
@[simp] theorem Device.modQueue_ptp (x : Device) (q : Fin 4) (f : Queue → Queue) : (x.modQueue q f).ptp = x.ptp := rfl
@[simp] theorem Device.modQueue_txBdControl (x : Device) (q : Fin 4) (f : Queue → Queue) : (x.modQueue q f).txBdControl = x.txBdControl := rfl
@[simp] theorem Device.modQueue_rxBdControl (x : Device) (q : Fin 4) (f : Queue → Queue) : (x.modQueue q f).rxBdControl = x.rxBdControl := rfl
@[simp] theorem Device.modQueue_rxBufSize (x : Device) (q : Fin 4) (f : Queue → Queue) : (x.modQueue q f).rxBufSize = x.rxBufSize := rfl
@[simp] theorem Device.modQueue_t1 (x : Device) (q : Fin 4) (f : Queue → Queue) : (x.modQueue q f).t1 = x.t1 := rfl
@[simp] theorem Device.modQueue_t2 (x : Device) (q : Fin 4) (f : Queue → Queue) : (x.modQueue q f).t2 = x.t2 := rfl
@[simp] theorem Device.modQueue_ethtype (x : Device) (q : Fin 4) (f : Queue → Queue) : (x.modQueue q f).ethtype = x.ethtype := rfl
@[simp] theorem Device.modQueue_cmpW0 (x : Device) (q : Fin 4) (f : Queue → Queue) : (x.modQueue q f).cmpW0 = x.cmpW0 := rfl
@[simp] theorem Device.modQueue_cmpW1 (x : Device) (q : Fin 4) (f : Queue → Queue) : (x.modQueue q f).cmpW1 = x.cmpW1 := rfl
@[simp] theorem Device.modQueue_haltReq (x : Device) (q : Fin 4) (f : Queue → Queue) : (x.modQueue q f).haltReq = x.haltReq := rfl

@[simp] theorem Device.mapQueues_ncr (x : Device) (f : Queue → Queue) : (x.mapQueues f).ncr = x.ncr := rfl
@[simp] theorem Device.mapQueues_ncfgr (x : Device) (f : Queue → Queue) : (x.mapQueues f).ncfgr = x.ncfgr := rfl
@[simp] theorem Device.mapQueues_dmacfg (x : Device) (f : Queue → Queue) : (x.mapQueues f).dmacfg = x.dmacfg := rfl
@[simp] theorem Device.mapQueues_tsr (x : Device) (f : Queue → Queue) : (x.mapQueues f).tsr = x.tsr := rfl
@[simp] theorem Device.mapQueues_rsr (x : Device) (f : Queue → Queue) : (x.mapQueues f).rsr = x.rsr := rfl
@[simp] theorem Device.mapQueues_jml (x : Device) (f : Queue → Queue) : (x.mapQueues f).jml = x.jml := rfl
@[simp] theorem Device.mapQueues_hrb (x : Device) (f : Queue → Queue) : (x.mapQueues f).hrb = x.hrb := rfl
@[simp] theorem Device.mapQueues_hrt (x : Device) (f : Queue → Queue) : (x.mapQueues f).hrt = x.hrt := rfl
@[simp] theorem Device.mapQueues_sab (x : Device) (f : Queue → Queue) : (x.mapQueues f).sab = x.sab := rfl
@[simp] theorem Device.mapQueues_sat (x : Device) (f : Queue → Queue) : (x.mapQueues f).sat = x.sat := rfl
@[simp] theorem Device.mapQueues_tidm (x : Device) (f : Queue → Queue) : (x.mapQueues f).tidm = x.tidm := rfl
@[simp] theorem Device.mapQueues_stackedVlan (x : Device) (f : Queue → Queue) : (x.mapQueues f).stackedVlan = x.stackedVlan := rfl
@[simp] theorem Device.mapQueues_rxPtpUnicast (x : Device) (f : Queue → Queue) : (x.mapQueues f).rxPtpUnicast = x.rxPtpUnicast := rfl
@[simp] theorem Device.mapQueues_txPtpUnicast (x : Device) (f : Queue → Queue) : (x.mapQueues f).txPtpUnicast = x.txPtpUnicast := rfl
@[simp] theorem Device.mapQueues_stats (x : Device) (f : Queue → Queue) : (x.mapQueues f).stats = x.stats := rfl
@[simp] theorem Device.mapQueues_octTx (x : Device) (f : Queue → Queue) : (x.mapQueues f).octTx = x.octTx := rfl
@[simp] theorem Device.mapQueues_octRx (x : Device) (f : Queue → Queue) : (x.mapQueues f).octRx = x.octRx := rfl
@[simp] theorem Device.mapQueues_octTxShadow (x : Device) (f : Queue → Queue) : (x.mapQueues f).octTxShadow = x.octTxShadow := rfl
@[simp] theorem Device.mapQueues_octRxShadow (x : Device) (f : Queue → Queue) : (x.mapQueues f).octRxShadow = x.octRxShadow := rfl
@[simp] theorem Device.mapQueues_tsu (x : Device) (f : Queue → Queue) : (x.mapQueues f).tsu = x.tsu := rfl
@[simp] theorem Device.mapQueues_ptp (x : Device) (f : Queue → Queue) : (x.mapQueues f).ptp = x.ptp := rfl
@[simp] theorem Device.mapQueues_txBdControl (x : Device) (f : Queue → Queue) : (x.mapQueues f).txBdControl = x.txBdControl := rfl
@[simp] theorem Device.mapQueues_rxBdControl (x : Device) (f : Queue → Queue) : (x.mapQueues f).rxBdControl = x.rxBdControl := rfl
@[simp] theorem Device.mapQueues_rxBufSize (x : Device) (f : Queue → Queue) : (x.mapQueues f).rxBufSize = x.rxBufSize := rfl
@[simp] theorem Device.mapQueues_t1 (x : Device) (f : Queue → Queue) : (x.mapQueues f).t1 = x.t1 := rfl
@[simp] theorem Device.mapQueues_t2 (x : Device) (f : Queue → Queue) : (x.mapQueues f).t2 = x.t2 := rfl
@[simp] theorem Device.mapQueues_ethtype (x : Device) (f : Queue → Queue) : (x.mapQueues f).ethtype = x.ethtype := rfl
@[simp] theorem Device.mapQueues_cmpW0 (x : Device) (f : Queue → Queue) : (x.mapQueues f).cmpW0 = x.cmpW0 := rfl
@[simp] theorem Device.mapQueues_cmpW1 (x : Device) (f : Queue → Queue) : (x.mapQueues f).cmpW1 = x.cmpW1 := rfl
@[simp] theorem Device.mapQueues_haltReq (x : Device) (f : Queue → Queue) : (x.mapQueues f).haltReq = x.haltReq := rfl

@[simp] theorem Device.irq_ncr (x : Device) (q : Fin 4) (b : Word) : (x.irq q b).ncr = x.ncr := rfl
@[simp] theorem Device.irq_ncfgr (x : Device) (q : Fin 4) (b : Word) : (x.irq q b).ncfgr = x.ncfgr := rfl
@[simp] theorem Device.irq_dmacfg (x : Device) (q : Fin 4) (b : Word) : (x.irq q b).dmacfg = x.dmacfg := rfl
@[simp] theorem Device.irq_tsr (x : Device) (q : Fin 4) (b : Word) : (x.irq q b).tsr = x.tsr := rfl
@[simp] theorem Device.irq_rsr (x : Device) (q : Fin 4) (b : Word) : (x.irq q b).rsr = x.rsr := rfl
@[simp] theorem Device.irq_jml (x : Device) (q : Fin 4) (b : Word) : (x.irq q b).jml = x.jml := rfl
@[simp] theorem Device.irq_hrb (x : Device) (q : Fin 4) (b : Word) : (x.irq q b).hrb = x.hrb := rfl
@[simp] theorem Device.irq_hrt (x : Device) (q : Fin 4) (b : Word) : (x.irq q b).hrt = x.hrt := rfl
@[simp] theorem Device.irq_sab (x : Device) (q : Fin 4) (b : Word) : (x.irq q b).sab = x.sab := rfl
@[simp] theorem Device.irq_sat (x : Device) (q : Fin 4) (b : Word) : (x.irq q b).sat = x.sat := rfl
@[simp] theorem Device.irq_tidm (x : Device) (q : Fin 4) (b : Word) : (x.irq q b).tidm = x.tidm := rfl
@[simp] theorem Device.irq_stackedVlan (x : Device) (q : Fin 4) (b : Word) : (x.irq q b).stackedVlan = x.stackedVlan := rfl
@[simp] theorem Device.irq_rxPtpUnicast (x : Device) (q : Fin 4) (b : Word) : (x.irq q b).rxPtpUnicast = x.rxPtpUnicast := rfl
@[simp] theorem Device.irq_txPtpUnicast (x : Device) (q : Fin 4) (b : Word) : (x.irq q b).txPtpUnicast = x.txPtpUnicast := rfl
@[simp] theorem Device.irq_stats (x : Device) (q : Fin 4) (b : Word) : (x.irq q b).stats = x.stats := rfl
@[simp] theorem Device.irq_octTx (x : Device) (q : Fin 4) (b : Word) : (x.irq q b).octTx = x.octTx := rfl
@[simp] theorem Device.irq_octRx (x : Device) (q : Fin 4) (b : Word) : (x.irq q b).octRx = x.octRx := rfl
@[simp] theorem Device.irq_octTxShadow (x : Device) (q : Fin 4) (b : Word) : (x.irq q b).octTxShadow = x.octTxShadow := rfl
@[simp] theorem Device.irq_octRxShadow (x : Device) (q : Fin 4) (b : Word) : (x.irq q b).octRxShadow = x.octRxShadow := rfl
@[simp] theorem Device.irq_tsu (x : Device) (q : Fin 4) (b : Word) : (x.irq q b).tsu = x.tsu := rfl
@[simp] theorem Device.irq_ptp (x : Device) (q : Fin 4) (b : Word) : (x.irq q b).ptp = x.ptp := rfl
@[simp] theorem Device.irq_txBdControl (x : Device) (q : Fin 4) (b : Word) : (x.irq q b).txBdControl = x.txBdControl := rfl
@[simp] theorem Device.irq_rxBdControl (x : Device) (q : Fin 4) (b : Word) : (x.irq q b).rxBdControl = x.rxBdControl := rfl
@[simp] theorem Device.irq_rxBufSize (x : Device) (q : Fin 4) (b : Word) : (x.irq q b).rxBufSize = x.rxBufSize := rfl
@[simp] theorem Device.irq_t1 (x : Device) (q : Fin 4) (b : Word) : (x.irq q b).t1 = x.t1 := rfl
@[simp] theorem Device.irq_t2 (x : Device) (q : Fin 4) (b : Word) : (x.irq q b).t2 = x.t2 := rfl
@[simp] theorem Device.irq_ethtype (x : Device) (q : Fin 4) (b : Word) : (x.irq q b).ethtype = x.ethtype := rfl
@[simp] theorem Device.irq_cmpW0 (x : Device) (q : Fin 4) (b : Word) : (x.irq q b).cmpW0 = x.cmpW0 := rfl
@[simp] theorem Device.irq_cmpW1 (x : Device) (q : Fin 4) (b : Word) : (x.irq q b).cmpW1 = x.cmpW1 := rfl
@[simp] theorem Device.irq_haltReq (x : Device) (q : Fin 4) (b : Word) : (x.irq q b).haltReq = x.haltReq := rfl

@[simp] theorem Device.irqDevice_ncr (x : Device) (b : Word) : (x.irqDevice b).ncr = x.ncr := rfl
@[simp] theorem Device.irqDevice_ncfgr (x : Device) (b : Word) : (x.irqDevice b).ncfgr = x.ncfgr := rfl
@[simp] theorem Device.irqDevice_dmacfg (x : Device) (b : Word) : (x.irqDevice b).dmacfg = x.dmacfg := rfl
@[simp] theorem Device.irqDevice_tsr (x : Device) (b : Word) : (x.irqDevice b).tsr = x.tsr := rfl
@[simp] theorem Device.irqDevice_rsr (x : Device) (b : Word) : (x.irqDevice b).rsr = x.rsr := rfl
@[simp] theorem Device.irqDevice_jml (x : Device) (b : Word) : (x.irqDevice b).jml = x.jml := rfl
@[simp] theorem Device.irqDevice_hrb (x : Device) (b : Word) : (x.irqDevice b).hrb = x.hrb := rfl
@[simp] theorem Device.irqDevice_hrt (x : Device) (b : Word) : (x.irqDevice b).hrt = x.hrt := rfl
@[simp] theorem Device.irqDevice_sab (x : Device) (b : Word) : (x.irqDevice b).sab = x.sab := rfl
@[simp] theorem Device.irqDevice_sat (x : Device) (b : Word) : (x.irqDevice b).sat = x.sat := rfl
@[simp] theorem Device.irqDevice_tidm (x : Device) (b : Word) : (x.irqDevice b).tidm = x.tidm := rfl
@[simp] theorem Device.irqDevice_stackedVlan (x : Device) (b : Word) : (x.irqDevice b).stackedVlan = x.stackedVlan := rfl
@[simp] theorem Device.irqDevice_rxPtpUnicast (x : Device) (b : Word) : (x.irqDevice b).rxPtpUnicast = x.rxPtpUnicast := rfl
@[simp] theorem Device.irqDevice_txPtpUnicast (x : Device) (b : Word) : (x.irqDevice b).txPtpUnicast = x.txPtpUnicast := rfl
@[simp] theorem Device.irqDevice_stats (x : Device) (b : Word) : (x.irqDevice b).stats = x.stats := rfl
@[simp] theorem Device.irqDevice_octTx (x : Device) (b : Word) : (x.irqDevice b).octTx = x.octTx := rfl
@[simp] theorem Device.irqDevice_octRx (x : Device) (b : Word) : (x.irqDevice b).octRx = x.octRx := rfl
@[simp] theorem Device.irqDevice_octTxShadow (x : Device) (b : Word) : (x.irqDevice b).octTxShadow = x.octTxShadow := rfl
@[simp] theorem Device.irqDevice_octRxShadow (x : Device) (b : Word) : (x.irqDevice b).octRxShadow = x.octRxShadow := rfl
@[simp] theorem Device.irqDevice_tsu (x : Device) (b : Word) : (x.irqDevice b).tsu = x.tsu := rfl
@[simp] theorem Device.irqDevice_ptp (x : Device) (b : Word) : (x.irqDevice b).ptp = x.ptp := rfl
@[simp] theorem Device.irqDevice_txBdControl (x : Device) (b : Word) : (x.irqDevice b).txBdControl = x.txBdControl := rfl
@[simp] theorem Device.irqDevice_rxBdControl (x : Device) (b : Word) : (x.irqDevice b).rxBdControl = x.rxBdControl := rfl
@[simp] theorem Device.irqDevice_rxBufSize (x : Device) (b : Word) : (x.irqDevice b).rxBufSize = x.rxBufSize := rfl
@[simp] theorem Device.irqDevice_t1 (x : Device) (b : Word) : (x.irqDevice b).t1 = x.t1 := rfl
@[simp] theorem Device.irqDevice_t2 (x : Device) (b : Word) : (x.irqDevice b).t2 = x.t2 := rfl
@[simp] theorem Device.irqDevice_ethtype (x : Device) (b : Word) : (x.irqDevice b).ethtype = x.ethtype := rfl
@[simp] theorem Device.irqDevice_cmpW0 (x : Device) (b : Word) : (x.irqDevice b).cmpW0 = x.cmpW0 := rfl
@[simp] theorem Device.irqDevice_cmpW1 (x : Device) (b : Word) : (x.irqDevice b).cmpW1 = x.cmpW1 := rfl
@[simp] theorem Device.irqDevice_haltReq (x : Device) (b : Word) : (x.irqDevice b).haltReq = x.haltReq := rfl

/-! ### Status and counters -/

@[simp] theorem Device.setTsr_ncr (x : Device) (b : Word) : (x.setTsr b).ncr = x.ncr := rfl
@[simp] theorem Device.setTsr_ncfgr (x : Device) (b : Word) : (x.setTsr b).ncfgr = x.ncfgr := rfl
@[simp] theorem Device.setTsr_dmacfg (x : Device) (b : Word) : (x.setTsr b).dmacfg = x.dmacfg := rfl
@[simp] theorem Device.setTsr_rsr (x : Device) (b : Word) : (x.setTsr b).rsr = x.rsr := rfl
@[simp] theorem Device.setTsr_jml (x : Device) (b : Word) : (x.setTsr b).jml = x.jml := rfl
@[simp] theorem Device.setTsr_hrb (x : Device) (b : Word) : (x.setTsr b).hrb = x.hrb := rfl
@[simp] theorem Device.setTsr_hrt (x : Device) (b : Word) : (x.setTsr b).hrt = x.hrt := rfl
@[simp] theorem Device.setTsr_sab (x : Device) (b : Word) : (x.setTsr b).sab = x.sab := rfl
@[simp] theorem Device.setTsr_sat (x : Device) (b : Word) : (x.setTsr b).sat = x.sat := rfl
@[simp] theorem Device.setTsr_tidm (x : Device) (b : Word) : (x.setTsr b).tidm = x.tidm := rfl
@[simp] theorem Device.setTsr_stackedVlan (x : Device) (b : Word) : (x.setTsr b).stackedVlan = x.stackedVlan := rfl
@[simp] theorem Device.setTsr_rxPtpUnicast (x : Device) (b : Word) : (x.setTsr b).rxPtpUnicast = x.rxPtpUnicast := rfl
@[simp] theorem Device.setTsr_txPtpUnicast (x : Device) (b : Word) : (x.setTsr b).txPtpUnicast = x.txPtpUnicast := rfl
@[simp] theorem Device.setTsr_stats (x : Device) (b : Word) : (x.setTsr b).stats = x.stats := rfl
@[simp] theorem Device.setTsr_octTx (x : Device) (b : Word) : (x.setTsr b).octTx = x.octTx := rfl
@[simp] theorem Device.setTsr_octRx (x : Device) (b : Word) : (x.setTsr b).octRx = x.octRx := rfl
@[simp] theorem Device.setTsr_octTxShadow (x : Device) (b : Word) : (x.setTsr b).octTxShadow = x.octTxShadow := rfl
@[simp] theorem Device.setTsr_octRxShadow (x : Device) (b : Word) : (x.setTsr b).octRxShadow = x.octRxShadow := rfl
@[simp] theorem Device.setTsr_tsu (x : Device) (b : Word) : (x.setTsr b).tsu = x.tsu := rfl
@[simp] theorem Device.setTsr_ptp (x : Device) (b : Word) : (x.setTsr b).ptp = x.ptp := rfl
@[simp] theorem Device.setTsr_txBdControl (x : Device) (b : Word) : (x.setTsr b).txBdControl = x.txBdControl := rfl
@[simp] theorem Device.setTsr_rxBdControl (x : Device) (b : Word) : (x.setTsr b).rxBdControl = x.rxBdControl := rfl
@[simp] theorem Device.setTsr_rxBufSize (x : Device) (b : Word) : (x.setTsr b).rxBufSize = x.rxBufSize := rfl
@[simp] theorem Device.setTsr_t1 (x : Device) (b : Word) : (x.setTsr b).t1 = x.t1 := rfl
@[simp] theorem Device.setTsr_t2 (x : Device) (b : Word) : (x.setTsr b).t2 = x.t2 := rfl
@[simp] theorem Device.setTsr_ethtype (x : Device) (b : Word) : (x.setTsr b).ethtype = x.ethtype := rfl
@[simp] theorem Device.setTsr_cmpW0 (x : Device) (b : Word) : (x.setTsr b).cmpW0 = x.cmpW0 := rfl
@[simp] theorem Device.setTsr_cmpW1 (x : Device) (b : Word) : (x.setTsr b).cmpW1 = x.cmpW1 := rfl
@[simp] theorem Device.setTsr_queues (x : Device) (b : Word) : (x.setTsr b).queues = x.queues := rfl
@[simp] theorem Device.setTsr_haltReq (x : Device) (b : Word) : (x.setTsr b).haltReq = x.haltReq := rfl

@[simp] theorem Device.setRsr_ncr (x : Device) (b : Word) : (x.setRsr b).ncr = x.ncr := rfl
@[simp] theorem Device.setRsr_ncfgr (x : Device) (b : Word) : (x.setRsr b).ncfgr = x.ncfgr := rfl
@[simp] theorem Device.setRsr_dmacfg (x : Device) (b : Word) : (x.setRsr b).dmacfg = x.dmacfg := rfl
@[simp] theorem Device.setRsr_tsr (x : Device) (b : Word) : (x.setRsr b).tsr = x.tsr := rfl
@[simp] theorem Device.setRsr_jml (x : Device) (b : Word) : (x.setRsr b).jml = x.jml := rfl
@[simp] theorem Device.setRsr_hrb (x : Device) (b : Word) : (x.setRsr b).hrb = x.hrb := rfl
@[simp] theorem Device.setRsr_hrt (x : Device) (b : Word) : (x.setRsr b).hrt = x.hrt := rfl
@[simp] theorem Device.setRsr_sab (x : Device) (b : Word) : (x.setRsr b).sab = x.sab := rfl
@[simp] theorem Device.setRsr_sat (x : Device) (b : Word) : (x.setRsr b).sat = x.sat := rfl
@[simp] theorem Device.setRsr_tidm (x : Device) (b : Word) : (x.setRsr b).tidm = x.tidm := rfl
@[simp] theorem Device.setRsr_stackedVlan (x : Device) (b : Word) : (x.setRsr b).stackedVlan = x.stackedVlan := rfl
@[simp] theorem Device.setRsr_rxPtpUnicast (x : Device) (b : Word) : (x.setRsr b).rxPtpUnicast = x.rxPtpUnicast := rfl
@[simp] theorem Device.setRsr_txPtpUnicast (x : Device) (b : Word) : (x.setRsr b).txPtpUnicast = x.txPtpUnicast := rfl
@[simp] theorem Device.setRsr_stats (x : Device) (b : Word) : (x.setRsr b).stats = x.stats := rfl
@[simp] theorem Device.setRsr_octTx (x : Device) (b : Word) : (x.setRsr b).octTx = x.octTx := rfl
@[simp] theorem Device.setRsr_octRx (x : Device) (b : Word) : (x.setRsr b).octRx = x.octRx := rfl
@[simp] theorem Device.setRsr_octTxShadow (x : Device) (b : Word) : (x.setRsr b).octTxShadow = x.octTxShadow := rfl
@[simp] theorem Device.setRsr_octRxShadow (x : Device) (b : Word) : (x.setRsr b).octRxShadow = x.octRxShadow := rfl
@[simp] theorem Device.setRsr_tsu (x : Device) (b : Word) : (x.setRsr b).tsu = x.tsu := rfl
@[simp] theorem Device.setRsr_ptp (x : Device) (b : Word) : (x.setRsr b).ptp = x.ptp := rfl
@[simp] theorem Device.setRsr_txBdControl (x : Device) (b : Word) : (x.setRsr b).txBdControl = x.txBdControl := rfl
@[simp] theorem Device.setRsr_rxBdControl (x : Device) (b : Word) : (x.setRsr b).rxBdControl = x.rxBdControl := rfl
@[simp] theorem Device.setRsr_rxBufSize (x : Device) (b : Word) : (x.setRsr b).rxBufSize = x.rxBufSize := rfl
@[simp] theorem Device.setRsr_t1 (x : Device) (b : Word) : (x.setRsr b).t1 = x.t1 := rfl
@[simp] theorem Device.setRsr_t2 (x : Device) (b : Word) : (x.setRsr b).t2 = x.t2 := rfl
@[simp] theorem Device.setRsr_ethtype (x : Device) (b : Word) : (x.setRsr b).ethtype = x.ethtype := rfl
@[simp] theorem Device.setRsr_cmpW0 (x : Device) (b : Word) : (x.setRsr b).cmpW0 = x.cmpW0 := rfl
@[simp] theorem Device.setRsr_cmpW1 (x : Device) (b : Word) : (x.setRsr b).cmpW1 = x.cmpW1 := rfl
@[simp] theorem Device.setRsr_queues (x : Device) (b : Word) : (x.setRsr b).queues = x.queues := rfl
@[simp] theorem Device.setRsr_haltReq (x : Device) (b : Word) : (x.setRsr b).haltReq = x.haltReq := rfl

@[simp] theorem Device.count_ncr (x : Device) (c : Stat) : (x.count c).ncr = x.ncr := rfl
@[simp] theorem Device.count_ncfgr (x : Device) (c : Stat) : (x.count c).ncfgr = x.ncfgr := rfl
@[simp] theorem Device.count_dmacfg (x : Device) (c : Stat) : (x.count c).dmacfg = x.dmacfg := rfl
@[simp] theorem Device.count_tsr (x : Device) (c : Stat) : (x.count c).tsr = x.tsr := rfl
@[simp] theorem Device.count_rsr (x : Device) (c : Stat) : (x.count c).rsr = x.rsr := rfl
@[simp] theorem Device.count_jml (x : Device) (c : Stat) : (x.count c).jml = x.jml := rfl
@[simp] theorem Device.count_hrb (x : Device) (c : Stat) : (x.count c).hrb = x.hrb := rfl
@[simp] theorem Device.count_hrt (x : Device) (c : Stat) : (x.count c).hrt = x.hrt := rfl
@[simp] theorem Device.count_sab (x : Device) (c : Stat) : (x.count c).sab = x.sab := rfl
@[simp] theorem Device.count_sat (x : Device) (c : Stat) : (x.count c).sat = x.sat := rfl
@[simp] theorem Device.count_tidm (x : Device) (c : Stat) : (x.count c).tidm = x.tidm := rfl
@[simp] theorem Device.count_stackedVlan (x : Device) (c : Stat) : (x.count c).stackedVlan = x.stackedVlan := rfl
@[simp] theorem Device.count_rxPtpUnicast (x : Device) (c : Stat) : (x.count c).rxPtpUnicast = x.rxPtpUnicast := rfl
@[simp] theorem Device.count_txPtpUnicast (x : Device) (c : Stat) : (x.count c).txPtpUnicast = x.txPtpUnicast := rfl
@[simp] theorem Device.count_octTx (x : Device) (c : Stat) : (x.count c).octTx = x.octTx := rfl
@[simp] theorem Device.count_octRx (x : Device) (c : Stat) : (x.count c).octRx = x.octRx := rfl
@[simp] theorem Device.count_octTxShadow (x : Device) (c : Stat) : (x.count c).octTxShadow = x.octTxShadow := rfl
@[simp] theorem Device.count_octRxShadow (x : Device) (c : Stat) : (x.count c).octRxShadow = x.octRxShadow := rfl
@[simp] theorem Device.count_tsu (x : Device) (c : Stat) : (x.count c).tsu = x.tsu := rfl
@[simp] theorem Device.count_ptp (x : Device) (c : Stat) : (x.count c).ptp = x.ptp := rfl
@[simp] theorem Device.count_txBdControl (x : Device) (c : Stat) : (x.count c).txBdControl = x.txBdControl := rfl
@[simp] theorem Device.count_rxBdControl (x : Device) (c : Stat) : (x.count c).rxBdControl = x.rxBdControl := rfl
@[simp] theorem Device.count_rxBufSize (x : Device) (c : Stat) : (x.count c).rxBufSize = x.rxBufSize := rfl
@[simp] theorem Device.count_t1 (x : Device) (c : Stat) : (x.count c).t1 = x.t1 := rfl
@[simp] theorem Device.count_t2 (x : Device) (c : Stat) : (x.count c).t2 = x.t2 := rfl
@[simp] theorem Device.count_ethtype (x : Device) (c : Stat) : (x.count c).ethtype = x.ethtype := rfl
@[simp] theorem Device.count_cmpW0 (x : Device) (c : Stat) : (x.count c).cmpW0 = x.cmpW0 := rfl
@[simp] theorem Device.count_cmpW1 (x : Device) (c : Stat) : (x.count c).cmpW1 = x.cmpW1 := rfl
@[simp] theorem Device.count_queues (x : Device) (c : Stat) : (x.count c).queues = x.queues := rfl
@[simp] theorem Device.count_haltReq (x : Device) (c : Stat) : (x.count c).haltReq = x.haltReq := rfl

@[simp] theorem Device.clearStats_ncr (x : Device) : (x.clearStats).ncr = x.ncr := rfl
@[simp] theorem Device.clearStats_ncfgr (x : Device) : (x.clearStats).ncfgr = x.ncfgr := rfl
@[simp] theorem Device.clearStats_dmacfg (x : Device) : (x.clearStats).dmacfg = x.dmacfg := rfl
@[simp] theorem Device.clearStats_tsr (x : Device) : (x.clearStats).tsr = x.tsr := rfl
@[simp] theorem Device.clearStats_rsr (x : Device) : (x.clearStats).rsr = x.rsr := rfl
@[simp] theorem Device.clearStats_jml (x : Device) : (x.clearStats).jml = x.jml := rfl
@[simp] theorem Device.clearStats_hrb (x : Device) : (x.clearStats).hrb = x.hrb := rfl
@[simp] theorem Device.clearStats_hrt (x : Device) : (x.clearStats).hrt = x.hrt := rfl
@[simp] theorem Device.clearStats_sab (x : Device) : (x.clearStats).sab = x.sab := rfl
@[simp] theorem Device.clearStats_sat (x : Device) : (x.clearStats).sat = x.sat := rfl
@[simp] theorem Device.clearStats_tidm (x : Device) : (x.clearStats).tidm = x.tidm := rfl
@[simp] theorem Device.clearStats_stackedVlan (x : Device) : (x.clearStats).stackedVlan = x.stackedVlan := rfl
@[simp] theorem Device.clearStats_rxPtpUnicast (x : Device) : (x.clearStats).rxPtpUnicast = x.rxPtpUnicast := rfl
@[simp] theorem Device.clearStats_txPtpUnicast (x : Device) : (x.clearStats).txPtpUnicast = x.txPtpUnicast := rfl
@[simp] theorem Device.clearStats_tsu (x : Device) : (x.clearStats).tsu = x.tsu := rfl
@[simp] theorem Device.clearStats_ptp (x : Device) : (x.clearStats).ptp = x.ptp := rfl
@[simp] theorem Device.clearStats_txBdControl (x : Device) : (x.clearStats).txBdControl = x.txBdControl := rfl
@[simp] theorem Device.clearStats_rxBdControl (x : Device) : (x.clearStats).rxBdControl = x.rxBdControl := rfl
@[simp] theorem Device.clearStats_rxBufSize (x : Device) : (x.clearStats).rxBufSize = x.rxBufSize := rfl
@[simp] theorem Device.clearStats_t1 (x : Device) : (x.clearStats).t1 = x.t1 := rfl
@[simp] theorem Device.clearStats_t2 (x : Device) : (x.clearStats).t2 = x.t2 := rfl
@[simp] theorem Device.clearStats_ethtype (x : Device) : (x.clearStats).ethtype = x.ethtype := rfl
@[simp] theorem Device.clearStats_cmpW0 (x : Device) : (x.clearStats).cmpW0 = x.cmpW0 := rfl
@[simp] theorem Device.clearStats_cmpW1 (x : Device) : (x.clearStats).cmpW1 = x.cmpW1 := rfl
@[simp] theorem Device.clearStats_queues (x : Device) : (x.clearStats).queues = x.queues := rfl
@[simp] theorem Device.clearStats_haltReq (x : Device) : (x.clearStats).haltReq = x.haltReq := rfl

@[simp] theorem Device.countAll_ncr (x : Device) (l : List Stat) : (x.countAll l).ncr = x.ncr := by
  induction l generalizing x with
  | nil => rfl
  | cons c rest ih => exact ih _
@[simp] theorem Device.countAll_ncfgr (x : Device) (l : List Stat) : (x.countAll l).ncfgr = x.ncfgr := by
  induction l generalizing x with
  | nil => rfl
  | cons c rest ih => exact ih _
@[simp] theorem Device.countAll_dmacfg (x : Device) (l : List Stat) : (x.countAll l).dmacfg = x.dmacfg := by
  induction l generalizing x with
  | nil => rfl
  | cons c rest ih => exact ih _
@[simp] theorem Device.countAll_tsr (x : Device) (l : List Stat) : (x.countAll l).tsr = x.tsr := by
  induction l generalizing x with
  | nil => rfl
  | cons c rest ih => exact ih _
@[simp] theorem Device.countAll_rsr (x : Device) (l : List Stat) : (x.countAll l).rsr = x.rsr := by
  induction l generalizing x with
  | nil => rfl
  | cons c rest ih => exact ih _
@[simp] theorem Device.countAll_jml (x : Device) (l : List Stat) : (x.countAll l).jml = x.jml := by
  induction l generalizing x with
  | nil => rfl
  | cons c rest ih => exact ih _
@[simp] theorem Device.countAll_hrb (x : Device) (l : List Stat) : (x.countAll l).hrb = x.hrb := by
  induction l generalizing x with
  | nil => rfl
  | cons c rest ih => exact ih _
@[simp] theorem Device.countAll_hrt (x : Device) (l : List Stat) : (x.countAll l).hrt = x.hrt := by
  induction l generalizing x with
  | nil => rfl
  | cons c rest ih => exact ih _
@[simp] theorem Device.countAll_sab (x : Device) (l : List Stat) : (x.countAll l).sab = x.sab := by
  induction l generalizing x with
  | nil => rfl
  | cons c rest ih => exact ih _
@[simp] theorem Device.countAll_sat (x : Device) (l : List Stat) : (x.countAll l).sat = x.sat := by
  induction l generalizing x with
  | nil => rfl
  | cons c rest ih => exact ih _
@[simp] theorem Device.countAll_tidm (x : Device) (l : List Stat) : (x.countAll l).tidm = x.tidm := by
  induction l generalizing x with
  | nil => rfl
  | cons c rest ih => exact ih _
@[simp] theorem Device.countAll_stackedVlan (x : Device) (l : List Stat) : (x.countAll l).stackedVlan = x.stackedVlan := by
  induction l generalizing x with
  | nil => rfl
  | cons c rest ih => exact ih _
@[simp] theorem Device.countAll_rxPtpUnicast (x : Device) (l : List Stat) : (x.countAll l).rxPtpUnicast = x.rxPtpUnicast := by
  induction l generalizing x with
  | nil => rfl
  | cons c rest ih => exact ih _
@[simp] theorem Device.countAll_txPtpUnicast (x : Device) (l : List Stat) : (x.countAll l).txPtpUnicast = x.txPtpUnicast := by
  induction l generalizing x with
  | nil => rfl
  | cons c rest ih => exact ih _
@[simp] theorem Device.countAll_octTx (x : Device) (l : List Stat) : (x.countAll l).octTx = x.octTx := by
  induction l generalizing x with
  | nil => rfl
  | cons c rest ih => exact ih _
@[simp] theorem Device.countAll_octRx (x : Device) (l : List Stat) : (x.countAll l).octRx = x.octRx := by
  induction l generalizing x with
  | nil => rfl
  | cons c rest ih => exact ih _
@[simp] theorem Device.countAll_octTxShadow (x : Device) (l : List Stat) : (x.countAll l).octTxShadow = x.octTxShadow := by
  induction l generalizing x with
  | nil => rfl
  | cons c rest ih => exact ih _
@[simp] theorem Device.countAll_octRxShadow (x : Device) (l : List Stat) : (x.countAll l).octRxShadow = x.octRxShadow := by
  induction l generalizing x with
  | nil => rfl
  | cons c rest ih => exact ih _
@[simp] theorem Device.countAll_tsu (x : Device) (l : List Stat) : (x.countAll l).tsu = x.tsu := by
  induction l generalizing x with
  | nil => rfl
  | cons c rest ih => exact ih _
@[simp] theorem Device.countAll_ptp (x : Device) (l : List Stat) : (x.countAll l).ptp = x.ptp := by
  induction l generalizing x with
  | nil => rfl
  | cons c rest ih => exact ih _
@[simp] theorem Device.countAll_txBdControl (x : Device) (l : List Stat) : (x.countAll l).txBdControl = x.txBdControl := by
  induction l generalizing x with
  | nil => rfl
  | cons c rest ih => exact ih _
@[simp] theorem Device.countAll_rxBdControl (x : Device) (l : List Stat) : (x.countAll l).rxBdControl = x.rxBdControl := by
  induction l generalizing x with
  | nil => rfl
  | cons c rest ih => exact ih _
@[simp] theorem Device.countAll_rxBufSize (x : Device) (l : List Stat) : (x.countAll l).rxBufSize = x.rxBufSize := by
  induction l generalizing x with
  | nil => rfl
  | cons c rest ih => exact ih _
@[simp] theorem Device.countAll_t1 (x : Device) (l : List Stat) : (x.countAll l).t1 = x.t1 := by
  induction l generalizing x with
  | nil => rfl
  | cons c rest ih => exact ih _
@[simp] theorem Device.countAll_t2 (x : Device) (l : List Stat) : (x.countAll l).t2 = x.t2 := by
  induction l generalizing x with
  | nil => rfl
  | cons c rest ih => exact ih _
@[simp] theorem Device.countAll_ethtype (x : Device) (l : List Stat) : (x.countAll l).ethtype = x.ethtype := by
  induction l generalizing x with
  | nil => rfl
  | cons c rest ih => exact ih _
@[simp] theorem Device.countAll_cmpW0 (x : Device) (l : List Stat) : (x.countAll l).cmpW0 = x.cmpW0 := by
  induction l generalizing x with
  | nil => rfl
  | cons c rest ih => exact ih _
@[simp] theorem Device.countAll_cmpW1 (x : Device) (l : List Stat) : (x.countAll l).cmpW1 = x.cmpW1 := by
  induction l generalizing x with
  | nil => rfl
  | cons c rest ih => exact ih _
@[simp] theorem Device.countAll_queues (x : Device) (l : List Stat) : (x.countAll l).queues = x.queues := by
  induction l generalizing x with
  | nil => rfl
  | cons c rest ih => exact ih _
@[simp] theorem Device.countAll_haltReq (x : Device) (l : List Stat) : (x.countAll l).haltReq = x.haltReq := by
  induction l generalizing x with
  | nil => rfl
  | cons c rest ih => exact ih _

@[simp] theorem Device.queue_setTsr (x : Device) (b : Word) (q : Fin 4) : (x.setTsr b).queue q = x.queue q := rfl
@[simp] theorem Device.queue_setRsr (x : Device) (b : Word) (q : Fin 4) : (x.setRsr b).queue q = x.queue q := rfl
@[simp] theorem Device.queue_count (x : Device) (c : Stat) (q : Fin 4) : (x.count c).queue q = x.queue q := rfl
@[simp] theorem Device.queue_clearStats (x : Device) (q : Fin 4) : (x.clearStats).queue q = x.queue q := rfl
@[simp] theorem Device.queue_countAll (x : Device) (l : List Stat) (q : Fin 4) :
    (x.countAll l).queue q = x.queue q := by
  simp [Device.queue]

end Sys2Proof.Machine
end

