-- ==== Sys2Proof/Laws/Steps.lean ====
section
/-! SUPPORT. What one step can do to the state, said once: the updates a device or an MMSL can go through, with the
conditions each comes under. A proof that every step keeps a property is an induction over these updates. -/

namespace Sys2Proof.Machine

/-- The changes one step can make to device `d` of a configuration. -/
inductive Device.Update (c : Params) (d : Dev) : Device → Device → Prop
  | refl (x) : Update c d x x
  | trans {x y z} : Update c d x y → Update c d y z → Update c d x z
  | reset (x) : Update c d x Device.reset
  | ncr (x v) : v &&& ncrRsvd = 0 → Update c d x (x.writeNcr v)
  | ncfgr (x v) : v &&& ncfgrRsvd = 0 → ncfgrRxcoen v = false → Update c d x { x with ncfgr := v }
  | dmacfg (x v) : v &&& dmacfgRsvd = 0 → v &&& dmacfgHw0 = 0 → modeChangeWhileEnabled x v = false →
      Update c d x { x with dmacfg := v }
  | jml (x v) : v &&& jmlRsvd = 0 → jmlLegal v = true → Update c d x { x with jml := v }
  | clearTsr (x) (v : Word) : Update c d x { x with tsr := x.tsr &&& ~~~(v &&& tsrW1c) }
  | clearRsr (x) (v : Word) : Update c d x { x with rsr := x.rsr &&& ~~~(v &&& rsrW1c) }
  | txPtr (x) (q : Fin 4) (v) : q.val < c.nQueues d → ncrTe x.ncr = false → (q = 0 → v.getLsbD 0 = false) →
      v &&& queuePtrRsvd = 0 → Update c d x (x.modQueue q (Queue.setTxPtr v))
  | rxPtr (x) (q : Fin 4) (v) : q.val < c.nQueues d → ncrRe x.ncr = false → (q = 0 → v.getLsbD 0 = false) →
      v &&& queuePtrRsvd = 0 → Update c d x (x.modQueue q (Queue.setRxPtr v))
  | isrRead (x) (q : Fin 4) : Update c d x (x.modQueue q fun y => { y with isr := 0 })
  | ier (x) (q : Fin 4) (v : Word) :
      Update c d x (x.modQueue q fun y => { y with imr := y.imr &&& ~~~(v &&& isrImpl q) })
  | idr (x) (q : Fin 4) (v : Word) : Update c d x (x.modQueue q fun y => { y with imr := y.imr ||| (v &&& isrImpl q) })
  | hrb (x v) : Update c d x { x with hrb := v }
  | hrt (x v) : Update c d x { x with hrt := v }
  | sab (x) (k : Fin 4) (v) : Update c d x { x with sab := x.sab.set k v }
  | sat (x) (k : Fin 4) (v) : v &&& satRsvd k = 0 → Update c d x { x with sat := x.sat.set k v }
  | tidm (x) (k : Fin 4) (v) : v &&& 0x7FFF0000#32 = 0 → Update c d x { x with tidm := x.tidm.set k v }
  | stackedVlan (x v) : v &&& 0xFFFC0000#32 = 0 → vlanDepth v ≠ 3 → Update c d x { x with stackedVlan := v }
  | rxPtpUnicast (x v) : Update c d x { x with rxPtpUnicast := v }
  | txPtpUnicast (x v) : Update c d x { x with txPtpUnicast := v }
  | txBdControl (x v) : v &&& 0xFFFFFFCF#32 = 0 → Update c d x { x with txBdControl := v }
  | rxBdControl (x v) : v &&& 0xFFFFFFCF#32 = 0 → Update c d x { x with rxBdControl := v }
  | rxBufSize (x) (k : Fin 3) (v) : v &&& 0xFFFFFF00#32 = 0 →
      Update c d x { x with rxBufSize := x.rxBufSize.set k v }
  | t1 (x) (n : Fin 16) (v) : v &&& 0x80000000#32 = 0 → Update c d x { x with t1 := x.t1.set n v }
  | t2 (x) (n : Fin 16) (v) : v &&& 0x00000080#32 = 0 → Update c d x { x with t2 := x.t2.set n v }
  | ethtype (x) (n : Fin 8) (v) : v &&& 0xFFFF0000#32 = 0 → Update c d x { x with ethtype := x.ethtype.set n v }
  | cmpW0 (x) (n : Fin 32) (v) : Update c d x { x with cmpW0 := x.cmpW0.set n v }
  | cmpW1 (x) (n : Fin 32) (v) : v &&& 0xFFFFFC00#32 = 0 → Update c d x { x with cmpW1 := x.cmpW1.set n v }
  | tsuSubInc (x v) : v &&& 0xFF000000#32 = 0 → Update c d x (x.modTsu fun t => { t with subInc := v })
  | tsuInc (x v) : v &&& 0xFFFFFF00#32 = 0 → Update c d x (x.modTsu fun t => { t with inc := v })
  | tsuSec (x) (f : Tsu → BitVec 64) : Update c d x (x.modTsu fun t => { t with sec := f t })
  | tsuNsec (x v) : v &&& 0xC0000000#32 = 0 → field v 0 30 < c.nsRollover →
      Update c d x (x.modTsu fun t => { t with ns := v.extractLsb' 0 30, acc := 0 })
  | tick (x) : Update c d x (x.tsuTick c.nsRollover)
  | statRead (x) (k : Stat) : Update c d x { x with stats := x.stats.set (statIndex k) 0 }
  | octTx (x v) : Update c d x { x with octTx := v }
  | octRx (x v) : Update c d x { x with octRx := v }
  | octTxRead (x h) : Update c d x { x with octTxShadow := h, octTx := 0 }
  | octRxRead (x h) : Update c d x { x with octRxShadow := h, octRx := 0 }
  | octTxShadow (x h) : Update c d x { x with octTxShadow := h }
  | octRxShadow (x h) : Update c d x { x with octRxShadow := h }
  | irq (x) (q : Fin 4) (bits) : bits &&& ~~~isrImpl q = 0 → Update c d x (x.irq q bits)
  | setTsr (x bits) : bits &&& ~~~tsrW1c = 0 → Update c d x (x.setTsr bits)
  | setRsr (x bits) : bits &&& ~~~rsrW1c = 0 → Update c d x (x.setRsr bits)
  | count (x k) : Update c d x (x.count k)
  | ptpRx (x) (k : Nat) : Update c d x (x.ptpRxEvent k)
  | ptpTx (x) (k : Nat) : Update c d x (x.ptpTxEvent k)
  | txInactive (x) (q : Fin 4) : Update c d x (x.modQueue q fun y => { y with txActive := false })
  | txFetch (x) (q : Fin 4) (cur fr) : txFetchEnabled c d q x = true →
      ((x.queue q).txBase &&& 7 = 0 → (x.queue q).txCur &&& 7 = 0 → cur &&& 7 = 0) →
      Update c d x (x.modQueue q fun y => { y with txCur := cur, inflight := some fr })
  | txFinish (x) (q : Fin 4) : (x.queue q).inflight.isSome = true →
      Update c d x (x.modQueue q fun y => { y with inflight := none }).txHaltCheck
  | rxCur (x) (q : Fin 4) (cur) : ((x.queue q).rxBase &&& 7 = 0 → (x.queue q).rxCur &&& 7 = 0 → cur &&& 7 = 0) →
      Update c d x (x.setRxCur q cur)

/-- The changes one step can make to an MMSL. -/
inductive Mmsl.Update (c : Params) : Mmsl → Mmsl → Prop
  | refl (y) : Update c y y
  | trans {x y z} : Update c x y → Update c y z → Update c x z
  | reset (y) : Update c y Mmsl.reset
  | control (y v) : v &&& mmControlRsvd = 0 → 1 ≤ mmVtime v → mmVtime v ≤ 128 → Update c y (y.writeControl v)
  | assErrRead (y) : Update c y { y with assErr := 0 }
  | assOkRead (y) : Update c y { y with assOk := 0 }
  | fragRxRead (y) : Update c y { y with fragRx := 0 }
  | fragTxRead (y) : Update c y { y with fragTx := 0 }
  | intStatusRead (y) : Update c y { y with intStatus := 0 }
  | intEn (y) (v : Word) : Update c y { y with intMask := y.intMask &&& ~~~(v &&& mmIntImpl) }
  | intDis (y) (v : Word) : Update c y { y with intMask := y.intMask ||| (v &&& mmIntImpl) }
  | sendVerify (y) : y.vstat = .verifying → y.waiting = false → y.vcount < c.verifyLimit →
      Update c y { y with vcount := y.vcount + 1, waiting := true }
  | timeout (y) : y.waiting = true → Update c y (y.timeout c.verifyLimit)
  | rxRespond (y) : y.vstat = .verifying → Update c y { y.setVstat .succeeded with waiting := false }
  | rxVerify (y) : mmPen y.control = true → Update c y { y with respondOwed := y.respondOwed + 1 }
  | sendRespond (y) : 0 < y.respondOwed → Update c y { y with respondOwed := y.respondOwed - 1 }
  | countRx (y k e) : Update c y (y.countRx k e)
  | countTx (y k) : Update c y (y.countTx k)

/-- What every step does to the parts of the state. -/
structure StepChange (s s' : State) : Prop where
  cfg  : s'.cfg = s.cfg
  dev  : ∀ d, Device.Update s.cfg d (s.dev d) (s'.dev d)
  mmsl : ∀ m, Mmsl.Update s.cfg (s.mmsl m) (s'.mmsl m)
  mem  : Memory.wf s.mem = true → Memory.wf s'.mem = true

/-- A result whose next state, if it is one, is such a change. -/
def Changes (s : State) (r : Result) : Prop := ∀ s', r = .next s' → StepChange s s'

namespace StepChange

theorem refl (s : State) : StepChange s s := ⟨rfl, fun _ => .refl _, fun _ => .refl _, id⟩

theorem trans {s t u : State} (h : StepChange s t) (k : StepChange t u) : StepChange s u where
  cfg := k.cfg.trans h.cfg
  dev d := (h.dev d).trans (h.cfg ▸ k.dev d)
  mmsl m := (h.mmsl m).trans (h.cfg ▸ k.mmsl m)
  mem w := k.mem (h.mem w)

theorem rdata (s : State) (v : Word) : StepChange s { s with rdata := v } :=
  ⟨rfl, fun d => by rw [State.dev_rdata]; exact .refl _, fun m => by rw [State.mmsl_rdata]; exact .refl _, id⟩

theorem setDev (s : State) (d : Dev) (x : Device) (h : Device.Update s.cfg d (s.dev d) x) :
    StepChange s (s.setDev d x) where
  cfg := by simp
  dev e := by
    rw [State.dev_setDev]
    split
    · subst e; exact h
    · exact .refl _
  mmsl m := by simp only [State.setDev_mmsl]; exact .refl _
  mem w := by simpa using w

theorem modDev (s : State) (d : Dev) (f : Device → Device) (h : Device.Update s.cfg d (s.dev d) (f (s.dev d))) :
    StepChange s (s.modDev d f) := setDev s d _ h

theorem modMmsl (s : State) (m : Mac) (f : Mmsl → Mmsl) (h : Mmsl.Update s.cfg (s.mmsl m) (f (s.mmsl m))) :
    StepChange s (modMmsl s m f) where
  cfg := by simp
  dev e := by rw [modMmsl_dev]; exact .refl _
  mmsl k := by
    rw [mmsl_modMmsl]
    split
    · subst k; exact h
    · exact .refl _
  mem w := by simpa using w

theorem withMem (s : State) (m : Memory) (h : Memory.wf s.mem = true → Memory.wf m = true) :
    StepChange s { s with mem := m } :=
  ⟨rfl, fun d => by rw [State.dev_mem]; exact .refl _, fun k => by rw [State.mmsl_mem]; exact .refl _, h⟩

theorem lineOut (s : State) (l : List LineOut) : StepChange s { s with lineOut := l } :=
  ⟨rfl, fun d => by rw [State.dev_lineOut]; exact .refl _, fun m => by rw [State.mmsl_lineOut]; exact .refl _, id⟩

theorem draws (s : State) (n : Nat) : StepChange s { s with draws := n } :=
  ⟨rfl, fun d => by rw [State.dev_draws]; exact .refl _, fun m => by rw [State.mmsl_draws]; exact .refl _, id⟩

theorem inputs (s : State) (l : List Input) : StepChange s { s with inputs := l } :=
  ⟨rfl, fun d => by rw [State.dev_inputs]; exact .refl _, fun m => by rw [State.mmsl_inputs]; exact .refl _, id⟩

theorem withDma (s : State) (d : Dev) (m : Memory) (x : Device) (h : Device.Update s.cfg d (s.dev d) x)
    (w : Memory.wf s.mem = true → Memory.wf m = true) : StepChange s (s.withDma d m x) :=
  (setDev s d x h).trans (withMem _ m (by simpa using w))

end StepChange

/-! ### Register accesses -/

theorem Changes.next {s s' : State} (h : StepChange s s') : Changes s (.next s') := by
  intro t e; cases e; exact h

theorem Changes.fault (s : State) (r : Fault) : Changes s (.fault r) := by intro t e; cases e

theorem Changes.refused (s : State) (r : Refusal) : Changes s (.refused r) := by intro t e; cases e

theorem Changes.ite {s : State} {p : Prop} [Decidable p] {a b : Result} (h : p → Changes s a) (k : ¬p → Changes s b) :
    Changes s (if p then a else b) := by
  split
  · exact h ‹_›
  · exact k ‹_›

theorem Changes.after {s t : State} {r : Result} (h : StepChange s t) (k : Changes t r) : Changes s r :=
  fun u e => h.trans (k u e)

theorem readAs_changes (v : Word) (s : State) : Changes s (readAs v s) := .next (.rdata s v)

theorem unmapped_changes (off : Nat) (op : MmioOp) (s : State) : Changes s (unmapped off op s) := by
  cases op with
  | read => exact .next ((StepChange.rdata s (Config.unmappedRead s.draws)).trans
    (.draws { s with rdata := Config.unmappedRead s.draws } (s.draws + 1)))
  | write v => exact .fault _ _

theorem whenPresent_changes (p : Bool) (off : Nat) (op : MmioOp) (s : State) (a : Result)
    (h : p = true → Changes s a) : Changes s (whenPresent p off op s a) := by
  unfold whenPresent
  split
  · exact h ‹_›
  · exact unmapped_changes off op s

theorem rwReg_changes (off : Nat) (rsvd value : Word) (store : Word → Result) (op : MmioOp) (s : State)
    (h : ∀ v, v &&& rsvd = 0 → Changes s (store v)) : Changes s (rwReg off rsvd value store op s) := by
  cases op with
  | read => exact readAs_changes value s
  | write v => exact .ite (fun _ => .fault _ _) (fun k => h v (by simpa using k))

theorem roReg_changes (value : Word) (op : MmioOp) (s : State) : Changes s (roReg value op s) := by
  cases op with
  | read => exact readAs_changes value s
  | write v => exact .next (.refl s)

theorem corReg_changes (value : Word) (t : State) (op : MmioOp) (s : State) (h : StepChange s t) :
    Changes s (corReg value t op s) := by
  cases op with
  | read => exact .after h (readAs_changes value t)
  | write v => exact .next (.refl s)

theorem w1cReg_changes (value : Word) (clear : Word → State) (op : MmioOp) (s : State)
    (h : ∀ v, StepChange s (clear v)) : Changes s (w1cReg value clear op s) := by
  cases op with
  | read => exact readAs_changes value s
  | write v => exact .next (h v)

theorem cmdReg_changes (act : Word → State) (op : MmioOp) (s : State) (h : ∀ v, StepChange s (act v)) :
    Changes s (cmdReg act op s) := by
  cases op with
  | read => exact readAs_changes 0 s
  | write v => exact .next (h v)

theorem txPtrReg_changes (q : Fin 4) (off : Nat) (d : Dev) (op : MmioOp) (s : State) :
    Changes s (txPtrReg q off d op s) := by
  refine whenPresent_changes _ _ _ _ _ fun hp => ?_
  cases op with
  | read => exact readAs_changes _ s
  | write v =>
    refine .ite (fun _ => .fault _ _) fun h1 => .ite (fun _ => .refused _ _) fun h2 => .ite (fun _ => .fault _ _)
      fun h3 => .next (.modDev s d _ (.txPtr _ q v (by simpa using hp) (by simpa using h1) (fun hq => ?_)
        (by simpa using h3)))
    simpa [hq] using h2

theorem rxPtrReg_changes (q : Fin 4) (off : Nat) (d : Dev) (op : MmioOp) (s : State) :
    Changes s (rxPtrReg q off d op s) := by
  refine whenPresent_changes _ _ _ _ _ fun hp => ?_
  cases op with
  | read => exact readAs_changes _ s
  | write v =>
    refine .ite (fun _ => .fault _ _) fun h1 => .ite (fun _ => .refused _ _) fun h2 => .ite (fun _ => .fault _ _)
      fun h3 => .next (.modDev s d _ (.rxPtr _ q v (by simpa using hp) (by simpa using h1) (fun hq => ?_)
        (by simpa using h3)))
    simpa [hq] using h2

theorem rxBufReg_changes (k : Fin 3) (d : Dev) (op : MmioOp) (s : State) : Changes s (rxBufReg k d op s) :=
  whenPresent_changes _ _ _ _ _ fun _ => rwReg_changes _ _ _ _ _ _ fun v h =>
    .next (.modDev s d _ (.rxBufSize _ k v h))

theorem isrReg_changes (q : Fin 4) (off : Nat) (d : Dev) (op : MmioOp) (s : State) : Changes s (isrReg q off d op s) :=
  whenPresent_changes _ _ _ _ _ fun _ => corReg_changes _ _ _ _ (.modDev s d _ (.isrRead _ q))

theorem ierReg_changes (q : Fin 4) (off : Nat) (d : Dev) (op : MmioOp) (s : State) : Changes s (ierReg q off d op s) :=
  whenPresent_changes _ _ _ _ _ fun _ => cmdReg_changes _ _ _ fun v => .modDev s d _ (.ier _ q v)

theorem idrReg_changes (q : Fin 4) (off : Nat) (d : Dev) (op : MmioOp) (s : State) : Changes s (idrReg q off d op s) :=
  whenPresent_changes _ _ _ _ _ fun _ => cmdReg_changes _ _ _ fun v => .modDev s d _ (.idr _ q v)

theorem imrReg_changes (q : Fin 4) (off : Nat) (d : Dev) (op : MmioOp) (s : State) : Changes s (imrReg q off d op s) :=
  whenPresent_changes _ _ _ _ _ fun _ => roReg_changes _ _ _

theorem saBottomReg_changes (k : Fin 4) (d : Dev) (op : MmioOp) (s : State) : Changes s (saBottomReg k d op s) :=
  rwReg_changes _ _ _ _ _ _ fun v _ => .next (.modDev s d _ (.sab _ k v))

theorem saTopReg_changes (k : Fin 4) (d : Dev) (op : MmioOp) (s : State) : Changes s (saTopReg k d op s) :=
  rwReg_changes _ _ _ _ _ _ fun v h => .next (.modDev s d _ (.sat _ k v h))

theorem tidmReg_changes (k : Fin 4) (d : Dev) (op : MmioOp) (s : State) : Changes s (tidmReg k d op s) :=
  rwReg_changes _ _ _ _ _ _ fun v h => .next (.modDev s d _ (.tidm _ k v h))

theorem t1Reg_changes (n : Fin 16) (d : Dev) (op : MmioOp) (s : State) : Changes s (t1Reg n d op s) :=
  whenPresent_changes _ _ _ _ _ fun _ => rwReg_changes _ _ _ _ _ _ fun v h => .next (.modDev s d _ (.t1 _ n v h))

theorem t2Reg_changes (n : Fin 16) (d : Dev) (op : MmioOp) (s : State) : Changes s (t2Reg n d op s) :=
  whenPresent_changes _ _ _ _ _ fun _ => rwReg_changes _ _ _ _ _ _ fun v h => .next (.modDev s d _ (.t2 _ n v h))

theorem ethtypeReg_changes (n : Fin 8) (d : Dev) (op : MmioOp) (s : State) : Changes s (ethtypeReg n d op s) :=
  whenPresent_changes _ _ _ _ _ fun _ => rwReg_changes _ _ _ _ _ _ fun v h =>
    .next (.modDev s d _ (.ethtype _ n v h))

theorem cmpW0Reg_changes (n : Fin 32) (d : Dev) (op : MmioOp) (s : State) : Changes s (cmpW0Reg n d op s) :=
  whenPresent_changes _ _ _ _ _ fun _ => rwReg_changes _ _ _ _ _ _ fun v _ => .next (.modDev s d _ (.cmpW0 _ n v))

theorem cmpW1Reg_changes (n : Fin 32) (d : Dev) (op : MmioOp) (s : State) : Changes s (cmpW1Reg n d op s) :=
  whenPresent_changes _ _ _ _ _ fun _ => rwReg_changes _ _ _ _ _ _ fun v h =>
    .next (.modDev s d _ (.cmpW1 _ n v h))

theorem statReg_changes (k : Stat) (d : Dev) (op : MmioOp) (s : State) : Changes s (statReg k d op s) :=
  corReg_changes _ _ _ _ (.modDev s d _ (.statRead _ k))

theorem mmslCor_changes (off : Nat) (value : Word) (f : Mmsl → Mmsl) (d : Dev) (op : MmioOp) (s : State)
    (h : Mmsl.Update s.cfg (s.mmsl (macOf d)) (f (s.mmsl (macOf d)))) :
    Changes s (mmslReg off d op s (corReg value (modMmsl s (macOf d) f) op s)) :=
  whenPresent_changes _ _ _ _ _ fun _ => corReg_changes _ _ _ _ (.modMmsl s _ _ h)

theorem mmslControl_changes (d : Dev) (op : MmioOp) (s : State) : Changes s (execMmslControl d op s) :=
  whenPresent_changes _ _ _ _ _ fun _ => rwReg_changes _ _ _ _ _ _ fun v h =>
    .ite (fun _ => .fault _ _) fun k => .next (.modMmsl s _ _ (.control _ v h (by omega) (by omega)))

theorem mmslIntEn_changes (d : Dev) (op : MmioOp) (s : State) : Changes s (execMmslIntEn d op s) := by
  unfold execMmslIntEn mmslReg
  exact whenPresent_changes _ _ _ _ _ fun _ => cmdReg_changes _ _ _ fun v => .modMmsl s _ _ (.intEn _ v)

theorem mmslIntDis_changes (d : Dev) (op : MmioOp) (s : State) : Changes s (execMmslIntDis d op s) := by
  unfold execMmslIntDis mmslReg
  exact whenPresent_changes _ _ _ _ _ fun _ => cmdReg_changes _ _ _ fun v => .modMmsl s _ _ (.intDis _ v)

theorem mmslStatus_changes (d : Dev) (op : MmioOp) (s : State) : Changes s (execMmslStatus d op s) := by
  unfold execMmslStatus mmslReg
  exact whenPresent_changes _ _ _ _ _ fun _ => roReg_changes _ _ _

theorem mmslIntMask_changes (d : Dev) (op : MmioOp) (s : State) : Changes s (execMmslIntMask d op s) := by
  unfold execMmslIntMask mmslReg
  exact whenPresent_changes _ _ _ _ _ fun _ => roReg_changes _ _ _

theorem ncrWrite_changes (d : Dev) (v : Word) (s : State) : Changes s (execNcrWrite d v s) := by
  unfold execNcrWrite
  exact rwReg_changes _ _ _ _ _ _ fun w h => .next (.modDev s d _ (.ncr _ w h))

theorem tsuSecHi_changes (d : Dev) (op : MmioOp) (s : State) : Changes s (execTsuSecHi d op s) := by
  unfold execTsuSecHi
  exact rwReg_changes _ _ _ _ _ _ fun v _ =>
    .next (.modDev s d _ (.tsuSec _ fun t => v ++ t.sec.extractLsb' 0 32))

theorem tsuSecLo_changes (d : Dev) (op : MmioOp) (s : State) : Changes s (execTsuSecLo d op s) := by
  unfold execTsuSecLo
  exact rwReg_changes _ _ _ _ _ _ fun v _ =>
    .next (.modDev s d _ (.tsuSec _ fun t => t.sec.extractLsb' 32 32 ++ v))

/-- What a register access can do. -/
theorem exec_changes (i : Instr) (s : State) : Changes s (exec i s) := by
  cases i
  case ncrRead d => exact readAs_changes _ s
  case ncrWrite d v => exact ncrWrite_changes d v s
  case ncfgr d op =>
    exact rwReg_changes _ _ _ _ _ _ fun v h => .ite (fun _ => .refused _ _) fun k =>
      .next (.modDev s d _ (.ncfgr _ v h (by simpa using k)))
  case dmacfg d op =>
    exact rwReg_changes _ _ _ _ _ _ fun v h => .ite (fun _ => .refused _ _) fun k => .ite (fun _ => .fault _ _) fun l =>
      .next (.modDev s d _ (.dmacfg _ v h (by simpa using k) (by simpa using l)))
  case jml d op =>
    exact rwReg_changes _ _ _ _ _ _ fun v h => .ite (fun k => .next (.modDev s d _ (.jml _ v h k))) fun _ => .fault _ _
  case tsr d op => exact w1cReg_changes _ _ _ _ fun v => .modDev s d _ (.clearTsr _ v)
  case rsr d op => exact w1cReg_changes _ _ _ _ fun v => .modDev s d _ (.clearRsr _ v)
  case hrb d op => exact rwReg_changes _ _ _ _ _ _ fun v _ => .next (.modDev s d _ (.hrb _ v))
  case hrt d op => exact rwReg_changes _ _ _ _ _ _ fun v _ => .next (.modDev s d _ (.hrt _ v))
  case stackedVlan d op =>
    exact rwReg_changes _ _ _ _ _ _ fun v h => .ite (fun _ => .fault _ _) fun k =>
      .next (.modDev s d _ (.stackedVlan _ v h k))
  case rxPtpUnicast d op => exact rwReg_changes _ _ _ _ _ _ fun v _ => .next (.modDev s d _ (.rxPtpUnicast _ v))
  case txPtpUnicast d op => exact rwReg_changes _ _ _ _ _ _ fun v _ => .next (.modDev s d _ (.txPtpUnicast _ v))
  case txBdControl d op => exact rwReg_changes _ _ _ _ _ _ fun v h => .next (.modDev s d _ (.txBdControl _ v h))
  case rxBdControl d op => exact rwReg_changes _ _ _ _ _ _ fun v h => .next (.modDev s d _ (.rxBdControl _ v h))
  case octTxLo d op => exact corReg_changes _ _ _ _ (.modDev s d _ (.octTxRead _ _))
  case octTxHi d op => exact corReg_changes _ _ _ _ (.modDev s d _ (.octTxShadow _ _))
  case octRxLo d op => exact corReg_changes _ _ _ _ (.modDev s d _ (.octRxRead _ _))
  case octRxHi d op => exact corReg_changes _ _ _ _ (.modDev s d _ (.octRxShadow _ _))
  case tsuSubInc d op => exact rwReg_changes _ _ _ _ _ _ fun v h => .next (.modDev s d _ (.tsuSubInc _ v h))
  case tsuSecHi d op => exact tsuSecHi_changes d op s
  case tsuSecLo d op => exact tsuSecLo_changes d op s
  case tsuNsec d op =>
    exact rwReg_changes _ _ _ _ _ _ fun v h => .ite (fun _ => .fault _ _) fun k =>
      .next (.modDev s d _ (.tsuNsec _ v h (by omega)))
  case tsuInc d op => exact rwReg_changes _ _ _ _ _ _ fun v h => .next (.modDev s d _ (.tsuInc _ v h))
  case mmslControl d op => exact mmslControl_changes d op s
  case mmslStatus d op => exact mmslStatus_changes d op s
  case mmslAssErr d op => exact mmslCor_changes 0x808 _ (fun m => { m with assErr := 0 }) d op s (.assErrRead _)
  case mmslAssOk d op => exact mmslCor_changes 0x80C _ (fun m => { m with assOk := 0 }) d op s (.assOkRead _)
  case mmslFragRx d op => exact mmslCor_changes 0x810 _ (fun m => { m with fragRx := 0 }) d op s (.fragRxRead _)
  case mmslFragTx d op => exact mmslCor_changes 0x814 _ (fun m => { m with fragTx := 0 }) d op s (.fragTxRead _)
  case mmslIntStatus d op => exact mmslCor_changes 0x818 _ (fun m => { m with intStatus := 0 }) d op s (.intStatusRead _)
  case mmslIntEn d op => exact mmslIntEn_changes d op s
  case mmslIntDis d op => exact mmslIntDis_changes d op s
  case mmslIntMask d op => exact mmslIntMask_changes d op s
  case rxqbqp d op => exact rxPtrReg_changes 0 0x018 d op s
  case txqbqp d op => exact txPtrReg_changes 0 0x01C d op s
  case isr d op => exact isrReg_changes 0 0x024 d op s
  case ier d op => exact ierReg_changes 0 0x028 d op s
  case idr d op => exact idrReg_changes 0 0x02C d op s
  case imr d op => exact imrReg_changes 0 0x030 d op s
  case sa1b d op => exact saBottomReg_changes 0 d op s
  case sa1t d op => exact saTopReg_changes 0 d op s
  case sa2b d op => exact saBottomReg_changes 1 d op s
  case sa2t d op => exact saTopReg_changes 1 d op s
  case sa3b d op => exact saBottomReg_changes 2 d op s
  case sa3t d op => exact saTopReg_changes 2 d op s
  case sa4b d op => exact saBottomReg_changes 3 d op s
  case sa4t d op => exact saTopReg_changes 3 d op s
  case tidm1 d op => exact tidmReg_changes 0 d op s
  case tidm2 d op => exact tidmReg_changes 1 d op s
  case tidm3 d op => exact tidmReg_changes 2 d op s
  case tidm4 d op => exact tidmReg_changes 3 d op s
  case moduleId d op => exact roReg_changes _ op s
  case framesTx d op => exact statReg_changes .framesTx d op s
  case bcastTx d op => exact statReg_changes .bcastTx d op s
  case mcastTx d op => exact statReg_changes .mcastTx d op s
  case pauseTx d op => exact statReg_changes .pauseTx d op s
  case frames64Tx d op => exact statReg_changes .frames64Tx d op s
  case frames65to127Tx d op => exact statReg_changes .frames65to127Tx d op s
  case frames128to255Tx d op => exact statReg_changes .frames128to255Tx d op s
  case frames256to511Tx d op => exact statReg_changes .frames256to511Tx d op s
  case frames512to1023Tx d op => exact statReg_changes .frames512to1023Tx d op s
  case frames1024to1518Tx d op => exact statReg_changes .frames1024to1518Tx d op s
  case frames1519Tx d op => exact statReg_changes .frames1519Tx d op s
  case txUnderruns d op => exact statReg_changes .txUnderruns d op s
  case singleCollisions d op => exact statReg_changes .singleCollisions d op s
  case multipleCollisions d op => exact statReg_changes .multipleCollisions d op s
  case excessiveCollisions d op => exact statReg_changes .excessiveCollisions d op s
  case lateCollisions d op => exact statReg_changes .lateCollisions d op s
  case deferredTx d op => exact statReg_changes .deferredTx d op s
  case crsErrors d op => exact statReg_changes .crsErrors d op s
  case framesRx d op => exact statReg_changes .framesRx d op s
  case bcastRx d op => exact statReg_changes .bcastRx d op s
  case mcastRx d op => exact statReg_changes .mcastRx d op s
  case pauseRx d op => exact statReg_changes .pauseRx d op s
  case frames64Rx d op => exact statReg_changes .frames64Rx d op s
  case frames65to127Rx d op => exact statReg_changes .frames65to127Rx d op s
  case frames128to255Rx d op => exact statReg_changes .frames128to255Rx d op s
  case frames256to511Rx d op => exact statReg_changes .frames256to511Rx d op s
  case frames512to1023Rx d op => exact statReg_changes .frames512to1023Rx d op s
  case frames1024to1518Rx d op => exact statReg_changes .frames1024to1518Rx d op s
  case frames1519Rx d op => exact statReg_changes .frames1519Rx d op s
  case undersizeRx d op => exact statReg_changes .undersizeRx d op s
  case oversizeRx d op => exact statReg_changes .oversizeRx d op s
  case jabbersRx d op => exact statReg_changes .jabbersRx d op s
  case fcsErrorsRx d op => exact statReg_changes .fcsErrorsRx d op s
  case lengthErrorsRx d op => exact statReg_changes .lengthErrorsRx d op s
  case symbolErrorsRx d op => exact statReg_changes .symbolErrorsRx d op s
  case alignmentErrorsRx d op => exact statReg_changes .alignmentErrorsRx d op s
  case resourceErrorsRx d op => exact statReg_changes .resourceErrorsRx d op s
  case overrunsRx d op => exact statReg_changes .overrunsRx d op s
  case ipChecksumErrorsRx d op => exact statReg_changes .ipChecksumErrorsRx d op s
  case tcpChecksumErrorsRx d op => exact statReg_changes .tcpChecksumErrorsRx d op s
  case udpChecksumErrorsRx d op => exact statReg_changes .udpChecksumErrorsRx d op s
  case autoFlushedRx d op => exact statReg_changes .autoFlushedRx d op s
  case ptpTxSec d op => exact roReg_changes _ op s
  case ptpTxNsec d op => exact roReg_changes _ op s
  case ptpRxSec d op => exact roReg_changes _ op s
  case ptpRxNsec d op => exact roReg_changes _ op s
  case peerTxSec d op => exact roReg_changes _ op s
  case peerTxNsec d op => exact roReg_changes _ op s
  case peerRxSec d op => exact roReg_changes _ op s
  case peerRxNsec d op => exact roReg_changes _ op s
  case isrQ1 d op => exact isrReg_changes 1 0x400 d op s
  case isrQ2 d op => exact isrReg_changes 2 0x404 d op s
  case isrQ3 d op => exact isrReg_changes 3 0x408 d op s
  case txqbqpQ1 d op => exact txPtrReg_changes 1 0x440 d op s
  case txqbqpQ2 d op => exact txPtrReg_changes 2 0x444 d op s
  case txqbqpQ3 d op => exact txPtrReg_changes 3 0x448 d op s
  case rxqbqpQ1 d op => exact rxPtrReg_changes 1 0x480 d op s
  case rxqbqpQ2 d op => exact rxPtrReg_changes 2 0x484 d op s
  case rxqbqpQ3 d op => exact rxPtrReg_changes 3 0x488 d op s
  case rxbufSizeQ1 d op => exact rxBufReg_changes 0 d op s
  case rxbufSizeQ2 d op => exact rxBufReg_changes 1 d op s
  case rxbufSizeQ3 d op => exact rxBufReg_changes 2 d op s
  case t1_0 d op => exact t1Reg_changes 0 d op s
  case t1_1 d op => exact t1Reg_changes 1 d op s
  case t1_2 d op => exact t1Reg_changes 2 d op s
  case t1_3 d op => exact t1Reg_changes 3 d op s
  case t2_0 d op => exact t2Reg_changes 0 d op s
  case t2_1 d op => exact t2Reg_changes 1 d op s
  case t2_2 d op => exact t2Reg_changes 2 d op s
  case t2_3 d op => exact t2Reg_changes 3 d op s
  case ierQ1 d op => exact ierReg_changes 1 0x600 d op s
  case ierQ2 d op => exact ierReg_changes 2 0x604 d op s
  case ierQ3 d op => exact ierReg_changes 3 0x608 d op s
  case idrQ1 d op => exact idrReg_changes 1 0x620 d op s
  case idrQ2 d op => exact idrReg_changes 2 0x624 d op s
  case idrQ3 d op => exact idrReg_changes 3 0x628 d op s
  case imrQ1 d op => exact imrReg_changes 1 0x640 d op s
  case imrQ2 d op => exact imrReg_changes 2 0x644 d op s
  case imrQ3 d op => exact imrReg_changes 3 0x648 d op s
  case ethtype_0 d op => exact ethtypeReg_changes 0 d op s
  case ethtype_1 d op => exact ethtypeReg_changes 1 d op s
  case ethtype_2 d op => exact ethtypeReg_changes 2 d op s
  case ethtype_3 d op => exact ethtypeReg_changes 3 d op s
  case cmpW0_0 d op => exact cmpW0Reg_changes 0 d op s
  case cmpW1_0 d op => exact cmpW1Reg_changes 0 d op s
  case cmpW0_1 d op => exact cmpW0Reg_changes 1 d op s
  case cmpW1_1 d op => exact cmpW1Reg_changes 1 d op s
  case cmpW0_2 d op => exact cmpW0Reg_changes 2 d op s
  case cmpW1_2 d op => exact cmpW1Reg_changes 2 d op s
  case cmpW0_3 d op => exact cmpW0Reg_changes 3 d op s
  case cmpW1_3 d op => exact cmpW1Reg_changes 3 d op s
  case cmpW0_4 d op => exact cmpW0Reg_changes 4 d op s
  case cmpW1_4 d op => exact cmpW1Reg_changes 4 d op s
  case cmpW0_5 d op => exact cmpW0Reg_changes 5 d op s
  case cmpW1_5 d op => exact cmpW1Reg_changes 5 d op s
  case cmpW0_6 d op => exact cmpW0Reg_changes 6 d op s
  case cmpW1_6 d op => exact cmpW1Reg_changes 6 d op s
  case cmpW0_7 d op => exact cmpW0Reg_changes 7 d op s
  case cmpW1_7 d op => exact cmpW1Reg_changes 7 d op s
  case cmpW0_8 d op => exact cmpW0Reg_changes 8 d op s
  case cmpW1_8 d op => exact cmpW1Reg_changes 8 d op s
  case cmpW0_9 d op => exact cmpW0Reg_changes 9 d op s
  case cmpW1_9 d op => exact cmpW1Reg_changes 9 d op s
  case cmpW0_10 d op => exact cmpW0Reg_changes 10 d op s
  case cmpW1_10 d op => exact cmpW1Reg_changes 10 d op s
  case cmpW0_11 d op => exact cmpW0Reg_changes 11 d op s
  case cmpW1_11 d op => exact cmpW1Reg_changes 11 d op s

theorem accessUnlisted_changes (d : Dev) (off : Nat) (op : MmioOp) (s : State) :
    Changes s (accessUnlisted d off op s) := by
  unfold accessUnlisted
  exact .ite (fun _ => t1Reg_changes _ _ _ _) fun _ => .ite (fun _ => t2Reg_changes _ _ _ _) fun _ =>
    .ite (fun _ => ethtypeReg_changes _ _ _ _) fun _ => .ite (fun _ => .ite (fun _ => cmpW0Reg_changes _ _ _ _)
      fun _ => cmpW1Reg_changes _ _ _ _) fun _ => unmapped_changes _ _ _

end Sys2Proof.Machine
end

