-- ==== Sys2Proof/Laws/Engines.lean ====
section
/-! SUPPORT. What one step of an engine, of the host or of the line can do, in the terms of Laws/Steps.lean; the last
theorem says it of every step of the machine. -/

namespace Sys2Proof.Machine

/-! ### Pointers -/

theorem add_stride_aligned (a : Word) (e : Bool) (h : a &&& 7 = 0) : (a + BitVec.ofNat 32 (stride e)) &&& 7 = 0 := by
  have key : ∀ k : Nat, 8 ∣ k → (a + BitVec.ofNat 32 k) &&& 7 = 0 := by
    intro k hk
    have h1 : a.toNat % 8 = 0 := by
      have : (a &&& 7#32).toNat = (0#32).toNat := congrArg BitVec.toNat h
      rw [BitVec.toNat_and, show (7#32).toNat = 2 ^ 3 - 1 from rfl, Nat.and_two_pow_sub_one_eq_mod] at this
      exact this
    apply BitVec.eq_of_toNat_eq
    show ((a + BitVec.ofNat 32 k) &&& 7#32).toNat = 0
    rw [BitVec.toNat_and, show (7#32).toNat = 2 ^ 3 - 1 from rfl, Nat.and_two_pow_sub_one_eq_mod, BitVec.toNat_add,
      BitVec.toNat_ofNat]
    omega
  cases e
  · exact key 8 (by decide)
  · exact key 16 (by decide)

/-- The pointer after a descriptor is 8-byte aligned where the base and the descriptor are. -/
theorem nextDesc_aligned {base a a' : Word} {w e : Bool} (h : nextDesc base w (stride e) a = some a')
    (hb : base &&& 7 = 0) (ha : a &&& 7 = 0) : a' &&& 7 = 0 := by
  unfold nextDesc at h
  split at h
  · cases h; exact hb
  · split at h
    · cases h; exact add_stride_aligned a e ha
    · cases h

/-! ### Devices -/

theorem Device.Update.irqDevice {c : Params} {d : Dev} (x : Device) (bits : Word) (h : bits &&& ~~~isrImpl 0 = 0) :
    Device.Update c d x (x.irqDevice bits) := .irq x 0 bits h

theorem Device.Update.countAll {c : Params} {d : Dev} (l : List Stat) (x : Device) :
    Device.Update c d x (x.countAll l) := by
  induction l generalizing x with
  | nil => exact .refl x
  | cons k rest ih => exact (Device.Update.count x k).trans (ih _)

/-- The bits a queue's own events set are implemented in every queue's status register. -/
theorem irq_queue (bits : Word) (h : bits &&& ~~~0x000008FE#32 = 0) (q : Fin 4) : bits &&& ~~~isrImpl q = 0 := by
  unfold isrImpl
  split
  · have e : (~~~0x07FC0CFE#32 : Word) = ~~~0x000008FE#32 &&& ~~~0x07FC0CFE#32 := by decide
    rw [e, ← BitVec.and_assoc, h]
    simp
  · exact h

theorem Device.Update.rxResourceError {c : Params} {d : Dev} (x : Device) (t : Fin 4) :
    Device.Update c d x (x.rxResourceError t) :=
  ((Device.Update.setRsr x _ (by decide)).trans (.irq _ t _ (irq_queue _ (by decide) t))).trans (.count _ _)

theorem Device.Update.rxBusError {c : Params} {d : Dev} (x : Device) (t : Fin 4) :
    Device.Update c d x (x.rxBusError t) :=
  (Device.Update.setRsr x _ (by decide)).trans (.irq _ t _ (irq_queue _ (by decide) t))

theorem Device.Update.rxOverrun {c : Params} {d : Dev} (x : Device) : Device.Update c d x x.rxOverrun :=
  ((Device.Update.setRsr x _ (by decide)).trans (.irqDevice _ _ (by decide))).trans (.count _ _)

theorem Device.Update.rxDone {c : Params} {d : Dev} (x : Device) (t : Fin 4) (f : List Byte) :
    Device.Update c d x (x.rxDone t f) :=
  (((Device.Update.setRsr x _ (by decide)).trans (.irq _ t _ (irq_queue _ (by decide) t))).trans
    (.octRx _ _)).trans (.countAll _ _)

theorem Device.Update.txUsed {c : Params} {d : Dev} (x : Device) (q : Fin 4) : Device.Update c d x (x.txUsed q) :=
  ((Device.Update.setTsr x _ (by decide)).trans (.irq _ q _ (irq_queue _ (by decide) q))).trans (.txInactive _ q)

theorem Device.Update.txDescError {c : Params} {d : Dev} (x : Device) (q : Fin 4) :
    Device.Update c d x (x.txDescError q) :=
  ((Device.Update.setTsr x _ (by decide)).trans (.irq _ q _ (irq_queue _ (by decide) q))).trans (.txInactive _ q)

theorem Device.Update.txEvents {c : Params} {d : Dev} (x : Device) (q : Fin 4) (o : TxOutcome) (g : Option PtpMsg) :
    Device.Update c d x (x.txEvents q o g) := by
  have h1 : outcomeTsr o &&& ~~~tsrW1c = 0 := by
    cases o with
    | ok k => simp only [outcomeTsr]; split <;> decide
    | _ => decide
  have h2 : outcomeIsr o &&& ~~~0x000008FE#32 = 0 := by cases o <;> simp [outcomeIsr] <;> decide
  have h3 := (Device.Update.setTsr (c := c) (d := d) x _ h1).trans (.irq _ q _ (irq_queue _ h2 q))
  unfold Device.txEvents
  split
  · exact h3.trans (.ptpTx _ _)
  · exact h3

theorem Device.Update.txWritten {c : Params} {d : Dev} (x : Device) (q : Fin 4) (b : Bool) :
    Device.Update c d x (x.txWritten q b) := by
  unfold Device.txWritten
  split
  · exact (Device.Update.setTsr x _ (by decide)).trans (.irq _ q _ (irq_queue _ (by decide) q))
  · exact .txDescError x q

theorem Device.Update.txStatistics {c : Params} {d : Dev} (x : Device) (o : TxOutcome) (f : List Byte) :
    Device.Update c d x (x.txStatistics o f) := by
  cases o with
  | ok k => exact (Device.Update.octTx x _).trans (.countAll _ _)
  | busErr => exact .refl x
  | _ => exact .count x _

/-! ### Queues of a device through events -/

theorem Device.queue_irq_inflight (x : Device) (p q : Fin 4) (b : Word) :
    ((x.irq p b).queue q).inflight = (x.queue q).inflight := by
  rw [Device.irq, Device.queue_modQueue]
  split
  · subst q; rfl
  · rfl

theorem Device.queue_ptpTxEvent_inflight (x : Device) (k : Nat) (q : Fin 4) :
    ((x.ptpTxEvent k).queue q).inflight = (x.queue q).inflight := by
  unfold Device.ptpTxEvent Device.irqDevice
  split <;> simp only [Device.queue_irq_inflight] <;> rfl

theorem Device.queue_txEvents_inflight (x : Device) (p q : Fin 4) (o : TxOutcome) (g : Option PtpMsg) :
    ((x.txEvents p o g).queue q).inflight = (x.queue q).inflight := by
  have h : (((x.setTsr (outcomeTsr o)).irq p (outcomeIsr o)).queue q).inflight = (x.queue q).inflight := by
    rw [Device.queue_irq_inflight]; rfl
  unfold Device.txEvents
  split
  · rw [Device.queue_ptpTxEvent_inflight]; exact h
  · exact h

theorem Device.queue_txWritten_inflight (x : Device) (p q : Fin 4) (b : Bool) :
    ((x.txWritten p b).queue q).inflight = (x.queue q).inflight := by
  unfold Device.txWritten
  split
  · rw [Device.queue_irq_inflight]; rfl
  · unfold Device.txDescError
    rw [Device.queue_modQueue]
    split
    · subst q; show ((Device.irq _ _ _).queue _).inflight = _; rw [Device.queue_irq_inflight]; rfl
    · rw [Device.queue_irq_inflight]; rfl

theorem Device.queue_txStatistics (x : Device) (o : TxOutcome) (f : List Byte) (q : Fin 4) :
    (x.txStatistics o f).queue q = x.queue q := by
  cases o with
  | ok k => simp only [Device.txStatistics, Device.queue_countAll]; rfl
  | busErr => rfl
  | _ => simp only [Device.txStatistics, Device.queue_count]

/-! ### The receive engine -/

/-- The memory a data step leaves. -/
def RxFill.mem : RxFill → Option Memory
  | .filled m _ _ _ => some m
  | .resource m => some m
  | .busErr m => some m
  | .fault _ => none

theorem rxFill_wf (o : Oracle) (g : RxRing) (fuel : Nat) (m : Memory) (n : Nat) (a : Word)
    (descs : List (Word × Word)) (rest : List Byte) (m' : Memory) (w : Memory.wf m = true)
    (h : (rxFill o g fuel m n a descs rest).mem = some m') : Memory.wf m' = true := by
  induction fuel generalizing m n a descs rest with
  | zero => cases h; exact w
  | succ k ih =>
    simp only [rxFill] at h
    split at h
    · cases h; exact w
    · split at h
      · cases h; exact w
      · generalize (if descs.isEmpty then g.offset else 0) = off at h
        split at h
        · cases h
        · split at h
          · split at h
            · cases h
            · split at h
              · cases h; exact wf_dmaWriteBytes _ _ _ _ _ w
              · exact ih _ _ _ _ _ (wf_dmaWriteBytes _ _ _ _ _ w) h
          · cases h; exact wf_dmaWriteBytes _ _ _ _ _ w

theorem rxFill_cur (o : Oracle) (g : RxRing) (e : Bool) (hg : g.stride = stride e) (hb : g.base &&& 7 = 0)
    (fuel : Nat) (m : Memory) (n : Nat) (a : Word) (descs : List (Word × Word)) (rest : List Byte)
    (m' : Memory) (n' : Nat) (ds : List (Word × Word)) (cur : Word) (ha : a &&& 7 = 0)
    (h : rxFill o g fuel m n a descs rest = .filled m' n' ds cur) : cur &&& 7 = 0 := by
  induction fuel generalizing m n a descs rest with
  | zero => cases h
  | succ k ih =>
    simp only [rxFill] at h
    split at h
    · cases h
    · split at h
      · cases h
      · generalize (if descs.isEmpty then g.offset else 0) = off at h
        split at h
        · cases h
        · split at h
          · split at h
            · cases h
            · next a' hn =>
              have ha' := nextDesc_aligned (hg ▸ hn) hb ha
              split at h
              · cases h; exact ha'
              · exact ih _ _ _ _ _ ha' h
          · cases h

theorem rxStore_changes (d : Dev) (t : Fin 4) (p : Parsed) (g : Option PtpMsg) (badfcs : Bool) (errs : List Nat)
    (f : List Byte) (x : Device) (s : State) (h : Device.Update s.cfg d (s.dev d) x) :
    Changes s (rxStore d t p g badfcs errs f x s) := by
  unfold rxStore
  simp only
  refine .ite (fun _ => .fault _ _) fun _ => ?_
  split
  · exact .fault _ _
  · next m hm =>
    exact .next (.withDma s d m _ (h.trans (.rxResourceError x t)) fun w =>
      rxFill_wf _ _ _ _ _ _ _ _ m w (by rw [hm]; rfl))
  · next m hm =>
    exact .next (.withDma s d m _ (h.trans (.rxBusError x t)) fun w =>
      rxFill_wf _ _ _ _ _ _ _ _ m w (by rw [hm]; rfl))
  · next m n descs cur hm =>
    have wm : Memory.wf s.mem = true → Memory.wf m = true := fun w =>
      rxFill_wf _ _ _ _ _ _ _ _ m w (by rw [hm]; rfl)
    have hc : Device.Update s.cfg d x (x.setRxCur t cur) :=
      .rxCur x t cur fun hb ha => rxFill_cur _ _ _ rfl hb _ _ _ _ _ _ _ _ _ _ ha hm
    have drop : ∀ ws, Changes s (.next (s.withDma d (dmaWriteWords ⟨errs, s.cfg.holes⟩ m n ws).1 (x.rxBusError t))) :=
      fun ws => .next (.withDma s d _ _ (h.trans (.rxBusError x t)) fun w => wf_dmaWriteWords _ _ _ _ (wm w))
    refine .ite (fun _ => .ite (fun _ => .fault _ _) fun _ => drop _) fun _ => .ite (fun _ => ?_) fun _ =>
      .ite (fun _ => drop _) fun _ => ?_
    · exact .next (.withDma s d _ _ ((h.trans hc).trans (.rxDone _ t f)) fun w => wf_dmaWriteWords _ _ _ _ (wm w))
    · exact .next (.withDma s d _ _ ((h.trans hc).trans (.rxBusError _ t)) fun w => wf_dmaWriteWords _ _ _ _ (wm w))

theorem rxDevice_changes (d : Dev) (f : List Byte) (dr : RxDraws) (s : State) : Changes s (rxDevice d f dr s) := by
  unfold rxDevice
  simp only
  refine .ite (fun _ => .next (.refl s)) fun _ => .ite (fun _ => .next (.setDev s d _ (.rxOverrun _))) fun _ =>
    .ite (fun _ => .next (.setDev s d _ (.countAll _ _))) fun _ => ?_
  have h2 : ∀ x1, Device.Update s.cfg d (s.dev d) x1 → ∀ g : Option PtpMsg, Device.Update s.cfg d (s.dev d)
      (match eventKind g with
        | some k => x1.ptpRxEvent k
        | none => x1) := by
    intro x1 h g
    split
    · exact h.trans (.ptpRx _ _)
    · exact h
  refine .ite (fun _ => .next (.setDev s d _ (h2 _ (.countAll _ _) _))) fun _ => ?_
  split
  · exact .next (.setDev s d _ (h2 _ (.countAll _ _) _))
  · exact .ite (fun _ => .next (.setDev s d _ ((h2 _ (.countAll _ _) _).trans (.rxResourceError _ _)))) fun _ =>
      rxStore_changes _ _ _ _ _ _ _ _ _ (h2 _ (.countAll _ _) _)

theorem runRxFrame_changes (m : Mac) (a : Arrival) (dr : RxDraws) (s : State) : Changes s (runRxFrame m a dr s) := by
  unfold runRxFrame
  simp only
  refine .ite (fun _ => .next (.refl s)) fun _ => ?_
  have h : StepChange s (if a.cls = .preemptable then modMmsl s m fun y => y.countRx a.frags a.aerr else s) := by
    split
    · exact .modMmsl s m _ (.countRx _ _ _)
    · exact .refl s
  exact .ite (fun _ => .next h) fun _ => .after h (rxDevice_changes _ _ _ _)

/-! ### The transmit engine -/

/-- The pointer after a fetched frame is aligned. -/
theorem txWalk_cur (o : Oracle) (m : Memory) (base first : Word) (e : Bool) (hb : base &&& 7 = 0) (fuel n : Nat)
    (a w1 : Word) (descs : List (Word × Word)) (data : List Byte) (be : Bool) (ds : List (Word × Word))
    (data' : List Byte) (und be' : Bool) (cur : Word) (ha : a &&& 7 = 0)
    (h : txWalk o m base first (stride e) fuel n a w1 descs data be = .frame ds data' und be' cur) :
    cur &&& 7 = 0 := by
  induction fuel generalizing n a w1 descs data be with
  | zero => cases h
  | succ k ih =>
    simp only [txWalk] at h
    split at h
    · cases h
    · split at h
      · cases h
      · split at h
        · cases h
        · next a' hn =>
          have ha' := nextDesc_aligned hn hb ha
          split at h
          · cases h; exact ha'
          · split at h
            · cases h
            · split at h
              · cases h
              · split at h
                · cases h; exact ha'
                · exact ih _ _ _ _ _ _ ha' h

theorem runTxFetch_changes (d : Dev) (q : Fin 4) (errs : List Nat) (s : State) : Changes s (runTxFetch d q errs s) := by
  unfold runTxFetch
  simp only
  refine .ite (fun _ => .next (.refl s)) fun en => ?_
  split
  · exact .fault _ _
  · exact .next (.setDev s d _ (.txUsed _ q))
  · exact .next (.setDev s d _ (.txDescError _ q))
  · next descs data und be cur hf =>
    refine .ite (fun _ => .fault _ _) fun _ => .ite (fun _ => .fault _ _) fun _ =>
      .next (.setDev s d _ (.txFetch _ q cur _ (by simpa using en) fun hb ha => ?_))
    unfold txFetchFrame at hf
    split at hf
    · cases hf
    · split at hf
      · cases hf
      · exact txWalk_cur _ _ _ _ _ hb _ _ _ _ _ _ _ _ _ _ _ _ ha hf

theorem transmit_changes (s : State) (d : Dev) (c : TxConf) (k : Nat) (f : List Byte) :
    StepChange s (transmit s d c k f) := by
  unfold transmit
  have h : StepChange s
      (if ncrLbLocal c.ncr then s else { s with lineOut := s.lineOut ++ [.txOut d f (txClass s d)] }) := by
    split
    · exact .refl s
    · exact .lineOut s _
  simp only
  split
  · exact h.trans (.modMmsl _ _ _ (.countTx _ _))
  · exact h

theorem transmit_dev (s : State) (d : Dev) (c : TxConf) (k : Nat) (f : List Byte) (e : Dev) :
    (transmit s d c k f).dev e = s.dev e := by
  unfold transmit
  simp only
  split <;> split <;> simp

theorem transmit_mem (s : State) (d : Dev) (c : TxConf) (k : Nat) (f : List Byte) : (transmit s d c k f).mem = s.mem := by
  unfold transmit
  simp only
  split <;> split <;> simp

theorem runTxDone_changes (d : Dev) (q : Fin 4) (dr : TxDraws) (s : State) : Changes s (runTxDone d q dr s) := by
  unfold runTxDone
  simp only
  split
  · exact .next (.refl s)
  · next fr hfr =>
    refine .ite (fun _ => .next (.refl s)) fun _ => .ite (fun _ => .fault _ _) fun _ => ?_
    have dev : ∀ (x : Device) (o : TxOutcome) (g : Option PtpMsg) (b : Bool) (f : List Byte),
        (x.queue q).inflight.isSome = true → Device.Update s.cfg d x
          ((((x.txEvents q o g).txWritten q b).txStatistics o f).modQueue q
            fun y => { y with inflight := none }).txHaltCheck := by
      intro x o g b f hx
      refine (((Device.Update.txEvents x q o g).trans (.txWritten _ q b)).trans (.txStatistics _ o f)).trans
        (.txFinish _ q ?_)
      rw [Device.queue_txStatistics, Device.queue_txWritten_inflight, Device.queue_txEvents_inflight]
      exact hx
    have step : ∀ (s1 : State) (o : TxOutcome) (g : Option PtpMsg) (b : Bool) (f : List Byte) (m : Memory),
        StepChange s s1 → s1.dev d = s.dev d → s1.mem = s.mem → (Memory.wf s.mem = true → Memory.wf m = true) →
        StepChange s (s1.withDma d m (((((s.dev d).txEvents q o g).txWritten q b).txStatistics o f).modQueue q
            fun y => { y with inflight := none }).txHaltCheck) := by
      intro s1 o g b f m h hd hm w
      refine h.trans (.withDma s1 d m _ ?_ fun k => w (hm ▸ k))
      rw [hd, h.cfg]
      exact dev _ _ _ _ _ (by rw [hfr]; rfl)
    have out : ∀ o : TxOutcome, ∀ f : List Byte,
        StepChange s (if outcomeIsOk o then transmit s d fr.conf dr.frags f else s)
          ∧ (if outcomeIsOk o then transmit s d fr.conf dr.frags f else s).dev d = s.dev d
          ∧ (if outcomeIsOk o then transmit s d fr.conf dr.frags f else s).mem = s.mem := by
      intro o f
      split
      · exact ⟨transmit_changes _ _ _ _ _, transmit_dev _ _ _ _ _ _, transmit_mem _ _ _ _ _⟩
      · exact ⟨.refl s, rfl, rfl⟩
    refine .ite (fun _ => .after (step _ _ _ _ _ _ (out _ _).1 (out _ _).2.1 (out _ _).2.2 ?_)
      (rxDevice_changes _ _ _ _)) fun _ => .next (step _ _ _ _ _ _ (out _ _).1 (out _ _).2.1 (out _ _).2.2 ?_)
    all_goals exact fun w => wf_dmaWriteWords _ _ _ _ w

/-! ### Every step -/

theorem runDecoded_changes (r : Except Reject Instr) (s : State) : Changes s (runDecoded r s) := by
  unfold runDecoded
  split
  · exact exec_changes _ _
  · exact .refused _ _
  · exact accessUnlisted_changes _ _ _ _

theorem runBus_changes (a : Word) (n : Nat) (op : MmioOp) (s : State) : Changes s (runBus a n op s) := by
  unfold runBus
  split
  · exact .refused _ _
  · exact .ite (fun _ => .refused _ _) fun _ => runDecoded_changes _ _

theorem runHostStore_changes (a : Word) (bs : List Byte) (s : State) : Changes s (runHostStore a bs s) :=
  .ite (fun _ => .fault _ _) fun _ => .ite (fun _ => .fault _ _) fun _ =>
    .next (.withMem s _ fun w => Memory.wf_writeBytes _ _ _ w)

theorem runHostLoad_changes (a : Word) (s : State) : Changes s (runHostLoad a s) :=
  .ite (fun _ => .fault _ _) fun _ => readAs_changes _ _

theorem runReset_changes (s : State) : Changes s (runReset s) := by
  refine .next ⟨rfl, fun d => ?_, fun m => ?_, id⟩
  · cases d <;> exact .reset _
  · cases m <;> exact .reset _

theorem runSendVerify_changes (m : Mac) (s : State) : Changes s (runSendVerify m s) :=
  .ite (fun h => .next ((StepChange.modMmsl s m _ (.sendVerify _ h.1 h.2.1 h.2.2)).trans (.lineOut _ _)))
    fun _ => .next (.refl s)

theorem runSendRespond_changes (m : Mac) (s : State) : Changes s (runSendRespond m s) :=
  .ite (fun h => .next ((StepChange.modMmsl s m _ (.sendRespond _ h)).trans (.lineOut _ _))) fun _ => .next (.refl s)

/-- What one step of any agent can do. -/
theorem runInput_changes (i : Input) (s : State) : Changes s (runInput i s) := by
  cases i with
  | mmio t => exact runDecoded_changes _ _
  | bus a n op => exact runBus_changes _ _ _ _
  | hostStore a b => exact runHostStore_changes _ _ _
  | hostLoad a => exact runHostLoad_changes _ _
  | txFetch d q e => exact runTxFetch_changes _ _ _ _
  | txDone d q dr => exact runTxDone_changes _ _ _ _
  | rxFrame m a dr => exact runRxFrame_changes _ _ _ _
  | tsuTick d => exact .next (.modDev s d _ (.tick _))
  | mmSendVerify m => exact runSendVerify_changes m s
  | mmTimeout m => exact .ite (fun h => .next (.modMmsl s m _ (.timeout _ h))) fun _ => .next (.refl s)
  | mmRxRespond m => exact .ite (fun h => .next (.modMmsl s m _ (.rxRespond _ h))) fun _ => .next (.refl s)
  | mmRxVerify m => exact .ite (fun h => .next (.modMmsl s m _ (.rxVerify _ h))) fun _ => .next (.refl s)
  | mmSendRespond m => exact runSendRespond_changes m s
  | lineEvent d c => exact .ite (fun _ => .next (.modDev s d _ (.count _ _))) fun _ => .next (.refl s)
  | hwReset => exact runReset_changes s

theorem nextInput_change (s : State) : StepChange s (nextInput s).2 := by
  unfold nextInput
  split
  · exact .inputs s _
  · exact .draws s _

/-- What one step of the machine can do; the configuration it ran under meets its constraints. -/
theorem step_change {s s' : State} (h : step s = .next s') : s.cfg.ok = true ∧ StepChange s s' := by
  unfold step at h
  split at h
  · exact ⟨‹_›, (nextInput_change s).trans (runInput_changes _ _ s' h)⟩
  · cases h

end Sys2Proof.Machine
end

