-- ==== Sys2Proof/Laws/HostMem.lean ====
section
/-! SUPPORT. What the search for a touched slot of a ring decides (70_reset R706): `ringTouched` passes runs of unlisted
slots at once, and answers what a walk slot by slot would. -/

namespace Sys2Proof.Machine

theorem overlaps_iff (a n b k : Nat) : overlaps a n b k = true ↔ 0 < n ∧ 0 < k ∧ a < b + k ∧ b < a + n := by
  simp [overlaps, and_assoc]

theorem Memory.nextListed_none {m : Memory} {a : Nat} (h : Memory.nextListed m a = none) :
    ∀ c ∈ m, ¬ (a ≤ c.1 ∧ c.1 < 2 ^ 32) := by
  induction m with
  | nil => simp
  | cons c rest ih =>
    simp only [Memory.nextListed] at h
    split at h
    · cases h
    · next hc =>
      intro e he
      rcases List.mem_cons.1 he with rfl | he
      · exact hc
      · exact ih h e he

theorem Memory.nextListed_some {m : Memory} {a x : Nat} (h : Memory.nextListed m a = some x) :
    a ≤ x ∧ x < 2 ^ 32 ∧ (∃ c ∈ m, c.1 = x) ∧ ∀ c ∈ m, a ≤ c.1 → c.1 < 2 ^ 32 → x ≤ c.1 := by
  induction m generalizing x with
  | nil => cases h
  | cons c rest ih =>
    simp only [Memory.nextListed] at h
    cases hf : Memory.nextListed rest a with
    | none =>
      rw [hf] at h
      split at h
      · next hc =>
        cases h
        simp only [Option.getD_none, Nat.min_self]
        refine ⟨hc.1, hc.2, ⟨c, List.mem_cons_self, rfl⟩, fun e he h1 h2 => ?_⟩
        rcases List.mem_cons.1 he with rfl | he
        · exact le_refl _
        · exact absurd ⟨h1, h2⟩ (Memory.nextListed_none hf e he)
      · cases h
    | some y =>
      rw [hf] at h
      obtain ⟨h1, h2, ⟨e, he, rfl⟩, h4⟩ := ih hf
      split at h
      · next hc =>
        cases h
        simp only [Option.getD_some]
        refine ⟨le_min hc.1 h1, lt_of_le_of_lt (Nat.min_le_left _ _) hc.2, ?_, fun b hb g1 g2 => ?_⟩
        · rcases Nat.le_total c.1 e.1 with hle | hle
          · exact ⟨c, List.mem_cons_self, by omega⟩
          · exact ⟨e, List.mem_cons_of_mem _ he, by omega⟩
        · rcases List.mem_cons.1 hb with rfl | hb
          · exact Nat.min_le_left _ _
          · exact le_trans (Nat.min_le_right _ _) (h4 b hb g1 g2)
      · next hc =>
        cases h
        refine ⟨h1, h2, ⟨e, List.mem_cons_of_mem _ he, rfl⟩, fun b hb g1 g2 => ?_⟩
        rcases List.mem_cons.1 hb with rfl | hb
        · exact absurd ⟨g1, g2⟩ hc
        · exact h4 b hb g1 g2

/-- Some slot from `a` on, none before it with WRAP, is hardware-owned and touched. -/
def RingHit (slot : Word → Slot) (step dst n a : Nat) : Prop :=
  ∃ i, a + step * i < 2 ^ 32 ∧ (∀ k < i, (slot (BitVec.ofNat 32 (a + step * k))).last = false)
    ∧ slotTouched (slot (BitVec.ofNat 32 (a + step * i))) (a + step * i) step dst n = true

/-- A run of `k` slots that are all alike is touched where one of them is. -/
theorem slotTouched_run (t : Slot) (a step k dst n len : Nat) (hs : 0 < step) (hk : 0 < k)
    (hl : len = step * k ∨ (dst + n ≤ a + len ∧ len ≤ step * k ∧ step * k < len + step)) :
    slotTouched t a len dst n = true ↔ ∃ i < k, slotTouched t (a + step * i) step dst n = true := by
  obtain ⟨j, rfl⟩ : ∃ j, k = j + 1 := ⟨k - 1, by omega⟩
  have hlen : 0 < len := by
    rcases hl with rfl | ⟨-, -, h⟩
    · exact Nat.mul_pos hs hk
    · rw [Nat.mul_succ] at h
      rcases Nat.eq_zero_or_pos len with rfl | h0
      · have : step * j < 0 := by omega
        omega
      · exact h0
  simp only [slotTouched, Bool.and_eq_true, Bool.or_eq_true, overlaps_iff]
  constructor
  · rintro ⟨ho, ⟨h1, -, h2, h3⟩ | hb⟩
    · rcases Nat.lt_or_ge dst a with hd | hd
      · exact ⟨0, hk, ho, .inl ⟨h1, hs, by omega, by omega⟩⟩
      · have hq : (dst - a) / step < j + 1 := by
          rw [Nat.div_lt_iff_lt_mul hs, Nat.mul_comm]
          rcases hl with h | h <;> omega
        have e1 := Nat.div_add_mod (dst - a) step
        have e2 := Nat.mod_lt (dst - a) hs
        exact ⟨_, hq, ho, .inl ⟨h1, hs, by omega, by omega⟩⟩
    · exact ⟨0, hk, ho, .inr hb⟩
  · rintro ⟨i, hi, ho, ⟨h1, -, h2, h3⟩ | hb⟩
    · have e := Nat.mul_le_mul_left step (Nat.le_of_lt_succ hi)
      rw [Nat.mul_succ] at hl
      refine ⟨ho, .inl ⟨h1, hlen, ?_, by omega⟩⟩
      rcases hl with h | h
      · omega
      · omega
    · exact ⟨ho, .inr hb⟩

/-- `ringTouched` answers whether a walk of the ring slot by slot meets a touched slot. -/
theorem ringTouched_iff (m : Memory) (slot : Word → Slot) (blank : Slot) (step dst n : Nat) (hs : 8 ∣ step) (h0 : 0 < step)
    (hd : dst + n ≤ 2 ^ 32) (hw : blank.last = false)
    (hb : ∀ b, b + 8 ≤ 2 ^ 32 → (∀ c ∈ m, ¬ (b ≤ c.1 ∧ c.1 < b + 8)) → slot (BitVec.ofNat 32 b) = blank)
    (fuel a : Nat) (ha : 8 ∣ a) (hf : (m.filter fun c => decide (a ≤ c.1)).length < fuel) :
    ringTouched m slot blank step dst n fuel a = true ↔ RingHit slot step dst n a := by
  induction fuel generalizing a with
  | zero => omega
  | succ fuel ih =>
    simp only [ringTouched]
    cases hx : Memory.nextListed m a with
    | none =>
      have hn := Memory.nextListed_none hx
      have hblank : ∀ i, a + step * i < 2 ^ 32 → slot (BitVec.ofNat 32 (a + step * i)) = blank := by
        intro i hi
        have h8 : 8 ∣ a + step * i := Nat.dvd_add ha (Dvd.dvd.mul_right hs i)
        refine hb _ (by omega) fun c hc h => hn c hc ⟨by omega, by omega⟩
      simp only [Bool.and_eq_true, decide_eq_true_eq]
      constructor
      · rintro ⟨hlt, h⟩
        have key := slotTouched_run blank a step ((2 ^ 32 - a + step - 1) / step) dst n (2 ^ 32 - a) h0
          (Nat.div_pos (by omega) h0) (.inr ?_)
        · obtain ⟨i, hi, ht⟩ := key.1 h
          have hi' : a + step * i < 2 ^ 32 := by
            have e1 := Nat.div_mul_le_self (2 ^ 32 - a + step - 1) step
            have e2 := Nat.mul_le_mul_left step (Nat.succ_le_of_lt hi)
            rw [Nat.mul_succ] at e2
            rw [Nat.mul_comm] at e1
            omega
          refine ⟨i, hi', fun k hk => ?_, (hblank i hi').symm ▸ ht⟩
          have := Nat.mul_le_mul_left step (Nat.le_of_lt hk)
          rw [hblank k (by omega)]; exact hw
        · have e1 := Nat.div_add_mod (2 ^ 32 - a + step - 1) step
          have e2 := Nat.mod_lt (2 ^ 32 - a + step - 1) h0
          omega
      · rintro ⟨i, hi, -, ht⟩
        rw [hblank i hi] at ht
        refine ⟨by omega, ?_⟩
        have key := slotTouched_run blank a step ((2 ^ 32 - a + step - 1) / step) dst n (2 ^ 32 - a) h0
          (Nat.div_pos (by omega) h0) (.inr ?_)
        · refine key.2 ⟨i, ?_, ht⟩
          rw [Nat.lt_iff_add_one_le, Nat.le_div_iff_mul_le h0, Nat.mul_comm, Nat.mul_succ]
          omega
        · have e1 := Nat.div_add_mod (2 ^ 32 - a + step - 1) step
          have e2 := Nat.mod_lt (2 ^ 32 - a + step - 1) h0
          omega
    | some x =>
      obtain ⟨hax, hx32, ⟨c, hc, rfl⟩, hmin⟩ := Memory.nextListed_some hx
      have e1 := Nat.div_add_mod (c.1 - a) step
      have e2 := Nat.mod_lt (c.1 - a) h0
      generalize hk : (c.1 - a) / step = k at e1
      have hblank : ∀ i < k, slot (BitVec.ofNat 32 (a + step * i)) = blank := by
        intro i hi
        have h8 : 8 ∣ a + step * i := Nat.dvd_add ha (Dvd.dvd.mul_right hs i)
        have e3 := Nat.mul_le_mul_left step (Nat.succ_le_of_lt hi)
        rw [Nat.mul_succ] at e3
        have h8s := Nat.le_of_dvd h0 hs
        refine hb _ (by omega) fun e he h => ?_
        have := hmin e he (by omega) (by omega)
        omega
      have hd8 : 8 ∣ a + step * k + step := Nat.dvd_add (Nat.dvd_add ha (Dvd.dvd.mul_right hs k)) hs
      have hlen : (m.filter fun e => decide (a + step * k + step ≤ e.1)).length < fuel := by
        have hsub : (m.filter fun e => decide (a + step * k + step ≤ e.1)).length
            < (m.filter fun e => decide (a ≤ e.1)).length := by
          have hp : (m.filter fun e => decide (a + step * k + step ≤ e.1))
              = (m.filter fun e => decide (a ≤ e.1)).filter fun e => decide (a + step * k + step ≤ e.1) := by
            rw [List.filter_filter]
            congr 1
            funext e
            simp only [← Bool.decide_and, decide_eq_decide]
            omega
          rw [hp]
          refine List.length_filter_lt_length_iff_exists.2 ⟨c, List.mem_filter.2 ⟨hc, by simpa using hax⟩, ?_⟩
          simp only [decide_eq_true_eq]
          omega
        omega
      have ih' := ih _ hd8 hlen
      simp only [hk, Bool.or_eq_true, Bool.and_eq_true, Bool.not_eq_true', decide_eq_true_eq, ih']
      have here : a + step * k < 2 ^ 32 := by omega
      constructor
      · rintro ((⟨hpos, h⟩ | h) | ⟨hl, i, hi, hbefore, ht⟩)
        · have hk0 : 0 < k := Nat.pos_of_ne_zero fun h => by simp [h] at hpos
          obtain ⟨i, hi, ht⟩ := (slotTouched_run blank a step k dst n _ h0 hk0 (.inl rfl)).1 h
          have := Nat.mul_le_mul_left step (Nat.le_of_lt hi)
          refine ⟨i, by omega, fun j hj => by rw [hblank j (by omega)]; exact hw, by rw [hblank i hi]; exact ht⟩
        · exact ⟨k, here, fun j hj => by rw [hblank j hj]; exact hw, h⟩
        · have e : ∀ j, a + step * (k + 1 + j) = a + step * k + step + step * j := fun j => by ring
          refine ⟨k + 1 + i, by rw [e]; exact hi, fun j hj => ?_, by rw [e]; exact ht⟩
          rcases Nat.lt_trichotomy j k with h | rfl | h
          · rw [hblank j h]; exact hw
          · exact hl
          · obtain ⟨j', rfl⟩ : ∃ j', j = k + 1 + j' := ⟨j - (k + 1), by omega⟩
            rw [e]
            exact hbefore j' (by omega)
      · rintro ⟨i, hi, hbefore, ht⟩
        rcases Nat.lt_trichotomy i k with h | rfl | h
        · refine .inl (.inl ⟨Nat.mul_pos h0 (by omega), ?_⟩)
          exact (slotTouched_run blank a step k dst n _ h0 (by omega) (.inl rfl)).2 ⟨i, h, by rw [← hblank i h]; exact ht⟩
        · exact .inl (.inr ht)
        · obtain ⟨j, rfl⟩ : ∃ j, i = k + 1 + j := ⟨i - (k + 1), by omega⟩
          have e : ∀ j, a + step * (k + 1 + j) = a + step * k + step + step * j := fun j => by ring
          refine .inr ⟨hbefore k (by omega), j, by rw [← e]; exact hi, fun j' hj' => ?_, by rw [← e]; exact ht⟩
          rw [← e]
          exact hbefore _ (by omega)

end Sys2Proof.Machine
end

