-- ==== Sys2Proof/Laws/PerInstr.lean ====
section
/-! SUPPORT. The families of lemmas with one lemma per instruction. -/

namespace Sys2Proof.Laws

/-- An access lies in its device's window (20_memory R100), and an access at its offset, of its device and direction,
decodes to it (30_encoding R142). -/
def DecodesAt.Statement (i : Instr) : Prop := i.off < 0x1000 ∧ decodeAt i.dev i.off i.op = .ok i

theorem decodesAt_of {i : Instr} (n : Nat) (h : i.off = n) (hn : n < 0x1000) (hd : decodeAt i.dev n i.op = .ok i) :
    DecodesAt.Statement i := by
  subst h
  exact ⟨hn, hd⟩

theorem DecodesAt.ncrRead (d : Dev) : DecodesAt.Statement (.ncrRead d) := decodesAt_of 0x000 rfl (by decide) rfl
theorem DecodesAt.ncrWrite (d : Dev) (v : Word) : DecodesAt.Statement (.ncrWrite d v) := decodesAt_of 0x000 rfl (by decide) rfl
theorem DecodesAt.ncfgr (d : Dev) (op : MmioOp) : DecodesAt.Statement (.ncfgr d op) := decodesAt_of 0x004 rfl (by decide) rfl
theorem DecodesAt.dmacfg (d : Dev) (op : MmioOp) : DecodesAt.Statement (.dmacfg d op) := decodesAt_of 0x010 rfl (by decide) rfl
theorem DecodesAt.tsr (d : Dev) (op : MmioOp) : DecodesAt.Statement (.tsr d op) := decodesAt_of 0x014 rfl (by decide) rfl
theorem DecodesAt.rxqbqp (d : Dev) (op : MmioOp) : DecodesAt.Statement (.rxqbqp d op) := decodesAt_of 0x018 rfl (by decide) rfl
theorem DecodesAt.txqbqp (d : Dev) (op : MmioOp) : DecodesAt.Statement (.txqbqp d op) := decodesAt_of 0x01C rfl (by decide) rfl
theorem DecodesAt.rsr (d : Dev) (op : MmioOp) : DecodesAt.Statement (.rsr d op) := decodesAt_of 0x020 rfl (by decide) rfl
theorem DecodesAt.isr (d : Dev) (op : MmioOp) : DecodesAt.Statement (.isr d op) := decodesAt_of 0x024 rfl (by decide) rfl
theorem DecodesAt.ier (d : Dev) (op : MmioOp) : DecodesAt.Statement (.ier d op) := decodesAt_of 0x028 rfl (by decide) rfl
theorem DecodesAt.idr (d : Dev) (op : MmioOp) : DecodesAt.Statement (.idr d op) := decodesAt_of 0x02C rfl (by decide) rfl
theorem DecodesAt.imr (d : Dev) (op : MmioOp) : DecodesAt.Statement (.imr d op) := decodesAt_of 0x030 rfl (by decide) rfl
theorem DecodesAt.jml (d : Dev) (op : MmioOp) : DecodesAt.Statement (.jml d op) := decodesAt_of 0x048 rfl (by decide) rfl
theorem DecodesAt.hrb (d : Dev) (op : MmioOp) : DecodesAt.Statement (.hrb d op) := decodesAt_of 0x080 rfl (by decide) rfl
theorem DecodesAt.hrt (d : Dev) (op : MmioOp) : DecodesAt.Statement (.hrt d op) := decodesAt_of 0x084 rfl (by decide) rfl
theorem DecodesAt.sa1b (d : Dev) (op : MmioOp) : DecodesAt.Statement (.sa1b d op) := decodesAt_of 0x088 rfl (by decide) rfl
theorem DecodesAt.sa1t (d : Dev) (op : MmioOp) : DecodesAt.Statement (.sa1t d op) := decodesAt_of 0x08C rfl (by decide) rfl
theorem DecodesAt.sa2b (d : Dev) (op : MmioOp) : DecodesAt.Statement (.sa2b d op) := decodesAt_of 0x090 rfl (by decide) rfl
theorem DecodesAt.sa2t (d : Dev) (op : MmioOp) : DecodesAt.Statement (.sa2t d op) := decodesAt_of 0x094 rfl (by decide) rfl
theorem DecodesAt.sa3b (d : Dev) (op : MmioOp) : DecodesAt.Statement (.sa3b d op) := decodesAt_of 0x098 rfl (by decide) rfl
theorem DecodesAt.sa3t (d : Dev) (op : MmioOp) : DecodesAt.Statement (.sa3t d op) := decodesAt_of 0x09C rfl (by decide) rfl
theorem DecodesAt.sa4b (d : Dev) (op : MmioOp) : DecodesAt.Statement (.sa4b d op) := decodesAt_of 0x0A0 rfl (by decide) rfl
theorem DecodesAt.sa4t (d : Dev) (op : MmioOp) : DecodesAt.Statement (.sa4t d op) := decodesAt_of 0x0A4 rfl (by decide) rfl
theorem DecodesAt.tidm1 (d : Dev) (op : MmioOp) : DecodesAt.Statement (.tidm1 d op) := decodesAt_of 0x0A8 rfl (by decide) rfl
theorem DecodesAt.tidm2 (d : Dev) (op : MmioOp) : DecodesAt.Statement (.tidm2 d op) := decodesAt_of 0x0AC rfl (by decide) rfl
theorem DecodesAt.tidm3 (d : Dev) (op : MmioOp) : DecodesAt.Statement (.tidm3 d op) := decodesAt_of 0x0B0 rfl (by decide) rfl
theorem DecodesAt.tidm4 (d : Dev) (op : MmioOp) : DecodesAt.Statement (.tidm4 d op) := decodesAt_of 0x0B4 rfl (by decide) rfl
theorem DecodesAt.stackedVlan (d : Dev) (op : MmioOp) : DecodesAt.Statement (.stackedVlan d op) := decodesAt_of 0x0C0 rfl (by decide) rfl
theorem DecodesAt.rxPtpUnicast (d : Dev) (op : MmioOp) : DecodesAt.Statement (.rxPtpUnicast d op) := decodesAt_of 0x0E0 rfl (by decide) rfl
theorem DecodesAt.txPtpUnicast (d : Dev) (op : MmioOp) : DecodesAt.Statement (.txPtpUnicast d op) := decodesAt_of 0x0E4 rfl (by decide) rfl
theorem DecodesAt.moduleId (d : Dev) (op : MmioOp) : DecodesAt.Statement (.moduleId d op) := decodesAt_of 0x0FC rfl (by decide) rfl
theorem DecodesAt.octTxLo (d : Dev) (op : MmioOp) : DecodesAt.Statement (.octTxLo d op) := decodesAt_of 0x100 rfl (by decide) rfl
theorem DecodesAt.octTxHi (d : Dev) (op : MmioOp) : DecodesAt.Statement (.octTxHi d op) := decodesAt_of 0x104 rfl (by decide) rfl
theorem DecodesAt.framesTx (d : Dev) (op : MmioOp) : DecodesAt.Statement (.framesTx d op) := decodesAt_of 0x108 rfl (by decide) rfl
theorem DecodesAt.bcastTx (d : Dev) (op : MmioOp) : DecodesAt.Statement (.bcastTx d op) := decodesAt_of 0x10C rfl (by decide) rfl
theorem DecodesAt.mcastTx (d : Dev) (op : MmioOp) : DecodesAt.Statement (.mcastTx d op) := decodesAt_of 0x110 rfl (by decide) rfl
theorem DecodesAt.pauseTx (d : Dev) (op : MmioOp) : DecodesAt.Statement (.pauseTx d op) := decodesAt_of 0x114 rfl (by decide) rfl
theorem DecodesAt.frames64Tx (d : Dev) (op : MmioOp) : DecodesAt.Statement (.frames64Tx d op) := decodesAt_of 0x118 rfl (by decide) rfl
theorem DecodesAt.frames65to127Tx (d : Dev) (op : MmioOp) : DecodesAt.Statement (.frames65to127Tx d op) := decodesAt_of 0x11C rfl (by decide) rfl
theorem DecodesAt.frames128to255Tx (d : Dev) (op : MmioOp) : DecodesAt.Statement (.frames128to255Tx d op) := decodesAt_of 0x120 rfl (by decide) rfl
theorem DecodesAt.frames256to511Tx (d : Dev) (op : MmioOp) : DecodesAt.Statement (.frames256to511Tx d op) := decodesAt_of 0x124 rfl (by decide) rfl
theorem DecodesAt.frames512to1023Tx (d : Dev) (op : MmioOp) : DecodesAt.Statement (.frames512to1023Tx d op) := decodesAt_of 0x128 rfl (by decide) rfl
theorem DecodesAt.frames1024to1518Tx (d : Dev) (op : MmioOp) : DecodesAt.Statement (.frames1024to1518Tx d op) := decodesAt_of 0x12C rfl (by decide) rfl
theorem DecodesAt.frames1519Tx (d : Dev) (op : MmioOp) : DecodesAt.Statement (.frames1519Tx d op) := decodesAt_of 0x130 rfl (by decide) rfl
theorem DecodesAt.txUnderruns (d : Dev) (op : MmioOp) : DecodesAt.Statement (.txUnderruns d op) := decodesAt_of 0x134 rfl (by decide) rfl
theorem DecodesAt.singleCollisions (d : Dev) (op : MmioOp) : DecodesAt.Statement (.singleCollisions d op) := decodesAt_of 0x138 rfl (by decide) rfl
theorem DecodesAt.multipleCollisions (d : Dev) (op : MmioOp) : DecodesAt.Statement (.multipleCollisions d op) := decodesAt_of 0x13C rfl (by decide) rfl
theorem DecodesAt.excessiveCollisions (d : Dev) (op : MmioOp) : DecodesAt.Statement (.excessiveCollisions d op) := decodesAt_of 0x140 rfl (by decide) rfl
theorem DecodesAt.lateCollisions (d : Dev) (op : MmioOp) : DecodesAt.Statement (.lateCollisions d op) := decodesAt_of 0x144 rfl (by decide) rfl
theorem DecodesAt.deferredTx (d : Dev) (op : MmioOp) : DecodesAt.Statement (.deferredTx d op) := decodesAt_of 0x148 rfl (by decide) rfl
theorem DecodesAt.crsErrors (d : Dev) (op : MmioOp) : DecodesAt.Statement (.crsErrors d op) := decodesAt_of 0x14C rfl (by decide) rfl
theorem DecodesAt.octRxLo (d : Dev) (op : MmioOp) : DecodesAt.Statement (.octRxLo d op) := decodesAt_of 0x150 rfl (by decide) rfl
theorem DecodesAt.octRxHi (d : Dev) (op : MmioOp) : DecodesAt.Statement (.octRxHi d op) := decodesAt_of 0x154 rfl (by decide) rfl
theorem DecodesAt.framesRx (d : Dev) (op : MmioOp) : DecodesAt.Statement (.framesRx d op) := decodesAt_of 0x158 rfl (by decide) rfl
theorem DecodesAt.bcastRx (d : Dev) (op : MmioOp) : DecodesAt.Statement (.bcastRx d op) := decodesAt_of 0x15C rfl (by decide) rfl
theorem DecodesAt.mcastRx (d : Dev) (op : MmioOp) : DecodesAt.Statement (.mcastRx d op) := decodesAt_of 0x160 rfl (by decide) rfl
theorem DecodesAt.pauseRx (d : Dev) (op : MmioOp) : DecodesAt.Statement (.pauseRx d op) := decodesAt_of 0x164 rfl (by decide) rfl
theorem DecodesAt.frames64Rx (d : Dev) (op : MmioOp) : DecodesAt.Statement (.frames64Rx d op) := decodesAt_of 0x168 rfl (by decide) rfl
theorem DecodesAt.frames65to127Rx (d : Dev) (op : MmioOp) : DecodesAt.Statement (.frames65to127Rx d op) := decodesAt_of 0x16C rfl (by decide) rfl
theorem DecodesAt.frames128to255Rx (d : Dev) (op : MmioOp) : DecodesAt.Statement (.frames128to255Rx d op) := decodesAt_of 0x170 rfl (by decide) rfl
theorem DecodesAt.frames256to511Rx (d : Dev) (op : MmioOp) : DecodesAt.Statement (.frames256to511Rx d op) := decodesAt_of 0x174 rfl (by decide) rfl
theorem DecodesAt.frames512to1023Rx (d : Dev) (op : MmioOp) : DecodesAt.Statement (.frames512to1023Rx d op) := decodesAt_of 0x178 rfl (by decide) rfl
theorem DecodesAt.frames1024to1518Rx (d : Dev) (op : MmioOp) : DecodesAt.Statement (.frames1024to1518Rx d op) := decodesAt_of 0x17C rfl (by decide) rfl
theorem DecodesAt.frames1519Rx (d : Dev) (op : MmioOp) : DecodesAt.Statement (.frames1519Rx d op) := decodesAt_of 0x180 rfl (by decide) rfl
theorem DecodesAt.undersizeRx (d : Dev) (op : MmioOp) : DecodesAt.Statement (.undersizeRx d op) := decodesAt_of 0x184 rfl (by decide) rfl
theorem DecodesAt.oversizeRx (d : Dev) (op : MmioOp) : DecodesAt.Statement (.oversizeRx d op) := decodesAt_of 0x188 rfl (by decide) rfl
theorem DecodesAt.jabbersRx (d : Dev) (op : MmioOp) : DecodesAt.Statement (.jabbersRx d op) := decodesAt_of 0x18C rfl (by decide) rfl
theorem DecodesAt.fcsErrorsRx (d : Dev) (op : MmioOp) : DecodesAt.Statement (.fcsErrorsRx d op) := decodesAt_of 0x190 rfl (by decide) rfl
theorem DecodesAt.lengthErrorsRx (d : Dev) (op : MmioOp) : DecodesAt.Statement (.lengthErrorsRx d op) := decodesAt_of 0x194 rfl (by decide) rfl
theorem DecodesAt.symbolErrorsRx (d : Dev) (op : MmioOp) : DecodesAt.Statement (.symbolErrorsRx d op) := decodesAt_of 0x198 rfl (by decide) rfl
theorem DecodesAt.alignmentErrorsRx (d : Dev) (op : MmioOp) : DecodesAt.Statement (.alignmentErrorsRx d op) := decodesAt_of 0x19C rfl (by decide) rfl
theorem DecodesAt.resourceErrorsRx (d : Dev) (op : MmioOp) : DecodesAt.Statement (.resourceErrorsRx d op) := decodesAt_of 0x1A0 rfl (by decide) rfl
theorem DecodesAt.overrunsRx (d : Dev) (op : MmioOp) : DecodesAt.Statement (.overrunsRx d op) := decodesAt_of 0x1A4 rfl (by decide) rfl
theorem DecodesAt.ipChecksumErrorsRx (d : Dev) (op : MmioOp) : DecodesAt.Statement (.ipChecksumErrorsRx d op) := decodesAt_of 0x1A8 rfl (by decide) rfl
theorem DecodesAt.tcpChecksumErrorsRx (d : Dev) (op : MmioOp) : DecodesAt.Statement (.tcpChecksumErrorsRx d op) := decodesAt_of 0x1AC rfl (by decide) rfl
theorem DecodesAt.udpChecksumErrorsRx (d : Dev) (op : MmioOp) : DecodesAt.Statement (.udpChecksumErrorsRx d op) := decodesAt_of 0x1B0 rfl (by decide) rfl
theorem DecodesAt.autoFlushedRx (d : Dev) (op : MmioOp) : DecodesAt.Statement (.autoFlushedRx d op) := decodesAt_of 0x1B4 rfl (by decide) rfl
theorem DecodesAt.tsuSubInc (d : Dev) (op : MmioOp) : DecodesAt.Statement (.tsuSubInc d op) := decodesAt_of 0x1BC rfl (by decide) rfl
theorem DecodesAt.tsuSecHi (d : Dev) (op : MmioOp) : DecodesAt.Statement (.tsuSecHi d op) := decodesAt_of 0x1C0 rfl (by decide) rfl
theorem DecodesAt.tsuSecLo (d : Dev) (op : MmioOp) : DecodesAt.Statement (.tsuSecLo d op) := decodesAt_of 0x1D0 rfl (by decide) rfl
theorem DecodesAt.tsuNsec (d : Dev) (op : MmioOp) : DecodesAt.Statement (.tsuNsec d op) := decodesAt_of 0x1D4 rfl (by decide) rfl
theorem DecodesAt.tsuInc (d : Dev) (op : MmioOp) : DecodesAt.Statement (.tsuInc d op) := decodesAt_of 0x1DC rfl (by decide) rfl
theorem DecodesAt.ptpTxSec (d : Dev) (op : MmioOp) : DecodesAt.Statement (.ptpTxSec d op) := decodesAt_of 0x1E0 rfl (by decide) rfl
theorem DecodesAt.ptpTxNsec (d : Dev) (op : MmioOp) : DecodesAt.Statement (.ptpTxNsec d op) := decodesAt_of 0x1E4 rfl (by decide) rfl
theorem DecodesAt.ptpRxSec (d : Dev) (op : MmioOp) : DecodesAt.Statement (.ptpRxSec d op) := decodesAt_of 0x1E8 rfl (by decide) rfl
theorem DecodesAt.ptpRxNsec (d : Dev) (op : MmioOp) : DecodesAt.Statement (.ptpRxNsec d op) := decodesAt_of 0x1EC rfl (by decide) rfl
theorem DecodesAt.peerTxSec (d : Dev) (op : MmioOp) : DecodesAt.Statement (.peerTxSec d op) := decodesAt_of 0x1F0 rfl (by decide) rfl
theorem DecodesAt.peerTxNsec (d : Dev) (op : MmioOp) : DecodesAt.Statement (.peerTxNsec d op) := decodesAt_of 0x1F4 rfl (by decide) rfl
theorem DecodesAt.peerRxSec (d : Dev) (op : MmioOp) : DecodesAt.Statement (.peerRxSec d op) := decodesAt_of 0x1F8 rfl (by decide) rfl
theorem DecodesAt.peerRxNsec (d : Dev) (op : MmioOp) : DecodesAt.Statement (.peerRxNsec d op) := decodesAt_of 0x1FC rfl (by decide) rfl
theorem DecodesAt.isrQ1 (d : Dev) (op : MmioOp) : DecodesAt.Statement (.isrQ1 d op) := decodesAt_of 0x400 rfl (by decide) rfl
theorem DecodesAt.isrQ2 (d : Dev) (op : MmioOp) : DecodesAt.Statement (.isrQ2 d op) := decodesAt_of 0x404 rfl (by decide) rfl
theorem DecodesAt.isrQ3 (d : Dev) (op : MmioOp) : DecodesAt.Statement (.isrQ3 d op) := decodesAt_of 0x408 rfl (by decide) rfl
theorem DecodesAt.txqbqpQ1 (d : Dev) (op : MmioOp) : DecodesAt.Statement (.txqbqpQ1 d op) := decodesAt_of 0x440 rfl (by decide) rfl
theorem DecodesAt.txqbqpQ2 (d : Dev) (op : MmioOp) : DecodesAt.Statement (.txqbqpQ2 d op) := decodesAt_of 0x444 rfl (by decide) rfl
theorem DecodesAt.txqbqpQ3 (d : Dev) (op : MmioOp) : DecodesAt.Statement (.txqbqpQ3 d op) := decodesAt_of 0x448 rfl (by decide) rfl
theorem DecodesAt.rxqbqpQ1 (d : Dev) (op : MmioOp) : DecodesAt.Statement (.rxqbqpQ1 d op) := decodesAt_of 0x480 rfl (by decide) rfl
theorem DecodesAt.rxqbqpQ2 (d : Dev) (op : MmioOp) : DecodesAt.Statement (.rxqbqpQ2 d op) := decodesAt_of 0x484 rfl (by decide) rfl
theorem DecodesAt.rxqbqpQ3 (d : Dev) (op : MmioOp) : DecodesAt.Statement (.rxqbqpQ3 d op) := decodesAt_of 0x488 rfl (by decide) rfl
theorem DecodesAt.rxbufSizeQ1 (d : Dev) (op : MmioOp) : DecodesAt.Statement (.rxbufSizeQ1 d op) := decodesAt_of 0x4A0 rfl (by decide) rfl
theorem DecodesAt.rxbufSizeQ2 (d : Dev) (op : MmioOp) : DecodesAt.Statement (.rxbufSizeQ2 d op) := decodesAt_of 0x4A4 rfl (by decide) rfl
theorem DecodesAt.rxbufSizeQ3 (d : Dev) (op : MmioOp) : DecodesAt.Statement (.rxbufSizeQ3 d op) := decodesAt_of 0x4A8 rfl (by decide) rfl
theorem DecodesAt.txBdControl (d : Dev) (op : MmioOp) : DecodesAt.Statement (.txBdControl d op) := decodesAt_of 0x4CC rfl (by decide) rfl
theorem DecodesAt.rxBdControl (d : Dev) (op : MmioOp) : DecodesAt.Statement (.rxBdControl d op) := decodesAt_of 0x4D0 rfl (by decide) rfl
theorem DecodesAt.t1_0 (d : Dev) (op : MmioOp) : DecodesAt.Statement (.t1_0 d op) := decodesAt_of 0x500 rfl (by decide) rfl
theorem DecodesAt.t1_1 (d : Dev) (op : MmioOp) : DecodesAt.Statement (.t1_1 d op) := decodesAt_of 0x504 rfl (by decide) rfl
theorem DecodesAt.t1_2 (d : Dev) (op : MmioOp) : DecodesAt.Statement (.t1_2 d op) := decodesAt_of 0x508 rfl (by decide) rfl
theorem DecodesAt.t1_3 (d : Dev) (op : MmioOp) : DecodesAt.Statement (.t1_3 d op) := decodesAt_of 0x50C rfl (by decide) rfl
theorem DecodesAt.t2_0 (d : Dev) (op : MmioOp) : DecodesAt.Statement (.t2_0 d op) := decodesAt_of 0x540 rfl (by decide) rfl
theorem DecodesAt.t2_1 (d : Dev) (op : MmioOp) : DecodesAt.Statement (.t2_1 d op) := decodesAt_of 0x544 rfl (by decide) rfl
theorem DecodesAt.t2_2 (d : Dev) (op : MmioOp) : DecodesAt.Statement (.t2_2 d op) := decodesAt_of 0x548 rfl (by decide) rfl
theorem DecodesAt.t2_3 (d : Dev) (op : MmioOp) : DecodesAt.Statement (.t2_3 d op) := decodesAt_of 0x54C rfl (by decide) rfl
theorem DecodesAt.ierQ1 (d : Dev) (op : MmioOp) : DecodesAt.Statement (.ierQ1 d op) := decodesAt_of 0x600 rfl (by decide) rfl
theorem DecodesAt.ierQ2 (d : Dev) (op : MmioOp) : DecodesAt.Statement (.ierQ2 d op) := decodesAt_of 0x604 rfl (by decide) rfl
theorem DecodesAt.ierQ3 (d : Dev) (op : MmioOp) : DecodesAt.Statement (.ierQ3 d op) := decodesAt_of 0x608 rfl (by decide) rfl
theorem DecodesAt.idrQ1 (d : Dev) (op : MmioOp) : DecodesAt.Statement (.idrQ1 d op) := decodesAt_of 0x620 rfl (by decide) rfl
theorem DecodesAt.idrQ2 (d : Dev) (op : MmioOp) : DecodesAt.Statement (.idrQ2 d op) := decodesAt_of 0x624 rfl (by decide) rfl
theorem DecodesAt.idrQ3 (d : Dev) (op : MmioOp) : DecodesAt.Statement (.idrQ3 d op) := decodesAt_of 0x628 rfl (by decide) rfl
theorem DecodesAt.imrQ1 (d : Dev) (op : MmioOp) : DecodesAt.Statement (.imrQ1 d op) := decodesAt_of 0x640 rfl (by decide) rfl
theorem DecodesAt.imrQ2 (d : Dev) (op : MmioOp) : DecodesAt.Statement (.imrQ2 d op) := decodesAt_of 0x644 rfl (by decide) rfl
theorem DecodesAt.imrQ3 (d : Dev) (op : MmioOp) : DecodesAt.Statement (.imrQ3 d op) := decodesAt_of 0x648 rfl (by decide) rfl
theorem DecodesAt.ethtype_0 (d : Dev) (op : MmioOp) : DecodesAt.Statement (.ethtype_0 d op) := decodesAt_of 0x6E0 rfl (by decide) rfl
theorem DecodesAt.ethtype_1 (d : Dev) (op : MmioOp) : DecodesAt.Statement (.ethtype_1 d op) := decodesAt_of 0x6E4 rfl (by decide) rfl
theorem DecodesAt.ethtype_2 (d : Dev) (op : MmioOp) : DecodesAt.Statement (.ethtype_2 d op) := decodesAt_of 0x6E8 rfl (by decide) rfl
theorem DecodesAt.ethtype_3 (d : Dev) (op : MmioOp) : DecodesAt.Statement (.ethtype_3 d op) := decodesAt_of 0x6EC rfl (by decide) rfl
theorem DecodesAt.cmpW0_0 (d : Dev) (op : MmioOp) : DecodesAt.Statement (.cmpW0_0 d op) := decodesAt_of 0x700 rfl (by decide) rfl
theorem DecodesAt.cmpW1_0 (d : Dev) (op : MmioOp) : DecodesAt.Statement (.cmpW1_0 d op) := decodesAt_of 0x704 rfl (by decide) rfl
theorem DecodesAt.cmpW0_1 (d : Dev) (op : MmioOp) : DecodesAt.Statement (.cmpW0_1 d op) := decodesAt_of 0x708 rfl (by decide) rfl
theorem DecodesAt.cmpW1_1 (d : Dev) (op : MmioOp) : DecodesAt.Statement (.cmpW1_1 d op) := decodesAt_of 0x70C rfl (by decide) rfl
theorem DecodesAt.cmpW0_2 (d : Dev) (op : MmioOp) : DecodesAt.Statement (.cmpW0_2 d op) := decodesAt_of 0x710 rfl (by decide) rfl
theorem DecodesAt.cmpW1_2 (d : Dev) (op : MmioOp) : DecodesAt.Statement (.cmpW1_2 d op) := decodesAt_of 0x714 rfl (by decide) rfl
theorem DecodesAt.cmpW0_3 (d : Dev) (op : MmioOp) : DecodesAt.Statement (.cmpW0_3 d op) := decodesAt_of 0x718 rfl (by decide) rfl
theorem DecodesAt.cmpW1_3 (d : Dev) (op : MmioOp) : DecodesAt.Statement (.cmpW1_3 d op) := decodesAt_of 0x71C rfl (by decide) rfl
theorem DecodesAt.cmpW0_4 (d : Dev) (op : MmioOp) : DecodesAt.Statement (.cmpW0_4 d op) := decodesAt_of 0x720 rfl (by decide) rfl
theorem DecodesAt.cmpW1_4 (d : Dev) (op : MmioOp) : DecodesAt.Statement (.cmpW1_4 d op) := decodesAt_of 0x724 rfl (by decide) rfl
theorem DecodesAt.cmpW0_5 (d : Dev) (op : MmioOp) : DecodesAt.Statement (.cmpW0_5 d op) := decodesAt_of 0x728 rfl (by decide) rfl
theorem DecodesAt.cmpW1_5 (d : Dev) (op : MmioOp) : DecodesAt.Statement (.cmpW1_5 d op) := decodesAt_of 0x72C rfl (by decide) rfl
theorem DecodesAt.cmpW0_6 (d : Dev) (op : MmioOp) : DecodesAt.Statement (.cmpW0_6 d op) := decodesAt_of 0x730 rfl (by decide) rfl
theorem DecodesAt.cmpW1_6 (d : Dev) (op : MmioOp) : DecodesAt.Statement (.cmpW1_6 d op) := decodesAt_of 0x734 rfl (by decide) rfl
theorem DecodesAt.cmpW0_7 (d : Dev) (op : MmioOp) : DecodesAt.Statement (.cmpW0_7 d op) := decodesAt_of 0x738 rfl (by decide) rfl
theorem DecodesAt.cmpW1_7 (d : Dev) (op : MmioOp) : DecodesAt.Statement (.cmpW1_7 d op) := decodesAt_of 0x73C rfl (by decide) rfl
theorem DecodesAt.cmpW0_8 (d : Dev) (op : MmioOp) : DecodesAt.Statement (.cmpW0_8 d op) := decodesAt_of 0x740 rfl (by decide) rfl
theorem DecodesAt.cmpW1_8 (d : Dev) (op : MmioOp) : DecodesAt.Statement (.cmpW1_8 d op) := decodesAt_of 0x744 rfl (by decide) rfl
theorem DecodesAt.cmpW0_9 (d : Dev) (op : MmioOp) : DecodesAt.Statement (.cmpW0_9 d op) := decodesAt_of 0x748 rfl (by decide) rfl
theorem DecodesAt.cmpW1_9 (d : Dev) (op : MmioOp) : DecodesAt.Statement (.cmpW1_9 d op) := decodesAt_of 0x74C rfl (by decide) rfl
theorem DecodesAt.cmpW0_10 (d : Dev) (op : MmioOp) : DecodesAt.Statement (.cmpW0_10 d op) := decodesAt_of 0x750 rfl (by decide) rfl
theorem DecodesAt.cmpW1_10 (d : Dev) (op : MmioOp) : DecodesAt.Statement (.cmpW1_10 d op) := decodesAt_of 0x754 rfl (by decide) rfl
theorem DecodesAt.cmpW0_11 (d : Dev) (op : MmioOp) : DecodesAt.Statement (.cmpW0_11 d op) := decodesAt_of 0x758 rfl (by decide) rfl
theorem DecodesAt.cmpW1_11 (d : Dev) (op : MmioOp) : DecodesAt.Statement (.cmpW1_11 d op) := decodesAt_of 0x75C rfl (by decide) rfl
theorem DecodesAt.mmslControl (d : Dev) (op : MmioOp) : DecodesAt.Statement (.mmslControl d op) := decodesAt_of 0x800 rfl (by decide) rfl
theorem DecodesAt.mmslStatus (d : Dev) (op : MmioOp) : DecodesAt.Statement (.mmslStatus d op) := decodesAt_of 0x804 rfl (by decide) rfl
theorem DecodesAt.mmslAssErr (d : Dev) (op : MmioOp) : DecodesAt.Statement (.mmslAssErr d op) := decodesAt_of 0x808 rfl (by decide) rfl
theorem DecodesAt.mmslAssOk (d : Dev) (op : MmioOp) : DecodesAt.Statement (.mmslAssOk d op) := decodesAt_of 0x80C rfl (by decide) rfl
theorem DecodesAt.mmslFragRx (d : Dev) (op : MmioOp) : DecodesAt.Statement (.mmslFragRx d op) := decodesAt_of 0x810 rfl (by decide) rfl
theorem DecodesAt.mmslFragTx (d : Dev) (op : MmioOp) : DecodesAt.Statement (.mmslFragTx d op) := decodesAt_of 0x814 rfl (by decide) rfl
theorem DecodesAt.mmslIntStatus (d : Dev) (op : MmioOp) : DecodesAt.Statement (.mmslIntStatus d op) := decodesAt_of 0x818 rfl (by decide) rfl
theorem DecodesAt.mmslIntEn (d : Dev) (op : MmioOp) : DecodesAt.Statement (.mmslIntEn d op) := decodesAt_of 0x81C rfl (by decide) rfl
theorem DecodesAt.mmslIntDis (d : Dev) (op : MmioOp) : DecodesAt.Statement (.mmslIntDis d op) := decodesAt_of 0x820 rfl (by decide) rfl
theorem DecodesAt.mmslIntMask (d : Dev) (op : MmioOp) : DecodesAt.Statement (.mmslIntMask d op) := decodesAt_of 0x824 rfl (by decide) rfl

end Sys2Proof.Laws
end

