-- ==== Sys2Proof/Tests/Slice0.lean ====
section
/-! SUPPORT. Tests of the author: the words of every row, ill-formed accesses, single steps with the results of the spec's
own examples, and for each statement a state and operands that meet its hypotheses. -/

namespace Sys2Proof.Tests

open Sys2Proof.Machine

/-! ### Decoding -/

/-- Every word of a list decodes to the access beside it. -/
def decodesAll (l : List (BitVec 64 × Instr)) : Bool :=
  l.all fun p => decide ((decode p.1).toOption = some p.2)


/-- The words of the control rows (30_encoding R141, R155). -/
theorem test_decode_control :
    decodesAll
    [(0x0000000000000000#64, .ncrRead .pmac0),
     (0xA500000100018000#64, .ncrWrite .emac0 0xA5000001#32),
     (0x0000000000020004#64, .ncfgr .pmac1 .read),
     (0xA500000300038010#64, .dmacfg .emac1 (.write 0xA5000003#32)),
     (0xA500000500018014#64, .tsr .emac0 (.write 0xA5000005#32)),
     (0x0000000000020018#64, .rxqbqp .pmac1 .read),
     (0xA50000070003801C#64, .txqbqp .emac1 (.write 0xA5000007#32)),
     (0xA500000900018020#64, .rsr .emac0 (.write 0xA5000009#32)),
     (0x0000000000020024#64, .isr .pmac1 .read),
     (0xA500000B00038028#64, .ier .emac1 (.write 0xA500000B#32)),
     (0xA500000D0001802C#64, .idr .emac0 (.write 0xA500000D#32)),
     (0x0000000000020030#64, .imr .pmac1 .read),
     (0xA500000F00038048#64, .jml .emac1 (.write 0xA500000F#32))] = true := by
  decide

/-- The words of the filter rows (30_encoding R141, R155). -/
theorem test_decode_filter :
    decodesAll
    [(0xA500001100018080#64, .hrb .emac0 (.write 0xA5000011#32)),
     (0x0000000000020084#64, .hrt .pmac1 .read),
     (0xA500001300038088#64, .sa1b .emac1 (.write 0xA5000013#32)),
     (0xA50000150001808C#64, .sa1t .emac0 (.write 0xA5000015#32)),
     (0x0000000000020090#64, .sa2b .pmac1 .read),
     (0xA500001700038094#64, .sa2t .emac1 (.write 0xA5000017#32)),
     (0xA500001900018098#64, .sa3b .emac0 (.write 0xA5000019#32)),
     (0x000000000002009C#64, .sa3t .pmac1 .read),
     (0xA500001B000380A0#64, .sa4b .emac1 (.write 0xA500001B#32)),
     (0xA500001D000180A4#64, .sa4t .emac0 (.write 0xA500001D#32)),
     (0x00000000000200A8#64, .tidm1 .pmac1 .read),
     (0xA500001F000380AC#64, .tidm2 .emac1 (.write 0xA500001F#32)),
     (0xA5000021000180B0#64, .tidm3 .emac0 (.write 0xA5000021#32)),
     (0x00000000000200B4#64, .tidm4 .pmac1 .read),
     (0xA5000023000380C0#64, .stackedVlan .emac1 (.write 0xA5000023#32)),
     (0xA5000025000180E0#64, .rxPtpUnicast .emac0 (.write 0xA5000025#32)),
     (0x00000000000200E4#64, .txPtpUnicast .pmac1 .read),
     (0xA5000027000380FC#64, .moduleId .emac1 (.write 0xA5000027#32))] = true := by
  decide

/-- The words of the tx statistics rows (30_encoding R141, R155). -/
theorem test_decode_tx_statistics :
    decodesAll
    [(0xA500002900018100#64, .octTxLo .emac0 (.write 0xA5000029#32)),
     (0x0000000000020104#64, .octTxHi .pmac1 .read),
     (0xA500002B00038108#64, .framesTx .emac1 (.write 0xA500002B#32)),
     (0xA500002D0001810C#64, .bcastTx .emac0 (.write 0xA500002D#32)),
     (0x0000000000020110#64, .mcastTx .pmac1 .read),
     (0xA500002F00038114#64, .pauseTx .emac1 (.write 0xA500002F#32)),
     (0xA500003100018118#64, .frames64Tx .emac0 (.write 0xA5000031#32)),
     (0x000000000002011C#64, .frames65to127Tx .pmac1 .read),
     (0xA500003300038120#64, .frames128to255Tx .emac1 (.write 0xA5000033#32)),
     (0xA500003500018124#64, .frames256to511Tx .emac0 (.write 0xA5000035#32)),
     (0x0000000000020128#64, .frames512to1023Tx .pmac1 .read),
     (0xA50000370003812C#64, .frames1024to1518Tx .emac1 (.write 0xA5000037#32)),
     (0xA500003900018130#64, .frames1519Tx .emac0 (.write 0xA5000039#32)),
     (0x0000000000020134#64, .txUnderruns .pmac1 .read),
     (0xA500003B00038138#64, .singleCollisions .emac1 (.write 0xA500003B#32)),
     (0xA500003D0001813C#64, .multipleCollisions .emac0 (.write 0xA500003D#32)),
     (0x0000000000020140#64, .excessiveCollisions .pmac1 .read),
     (0xA500003F00038144#64, .lateCollisions .emac1 (.write 0xA500003F#32)),
     (0xA500004100018148#64, .deferredTx .emac0 (.write 0xA5000041#32)),
     (0x000000000002014C#64, .crsErrors .pmac1 .read)] = true := by
  decide

/-- The words of the rx statistics rows (30_encoding R141, R155). -/
theorem test_decode_rx_statistics :
    decodesAll
    [(0xA500004300038150#64, .octRxLo .emac1 (.write 0xA5000043#32)),
     (0xA500004500018154#64, .octRxHi .emac0 (.write 0xA5000045#32)),
     (0x0000000000020158#64, .framesRx .pmac1 .read),
     (0xA50000470003815C#64, .bcastRx .emac1 (.write 0xA5000047#32)),
     (0xA500004900018160#64, .mcastRx .emac0 (.write 0xA5000049#32)),
     (0x0000000000020164#64, .pauseRx .pmac1 .read),
     (0xA500004B00038168#64, .frames64Rx .emac1 (.write 0xA500004B#32)),
     (0xA500004D0001816C#64, .frames65to127Rx .emac0 (.write 0xA500004D#32)),
     (0x0000000000020170#64, .frames128to255Rx .pmac1 .read),
     (0xA500004F00038174#64, .frames256to511Rx .emac1 (.write 0xA500004F#32)),
     (0xA500005100018178#64, .frames512to1023Rx .emac0 (.write 0xA5000051#32)),
     (0x000000000002017C#64, .frames1024to1518Rx .pmac1 .read),
     (0xA500005300038180#64, .frames1519Rx .emac1 (.write 0xA5000053#32)),
     (0xA500005500018184#64, .undersizeRx .emac0 (.write 0xA5000055#32)),
     (0x0000000000020188#64, .oversizeRx .pmac1 .read),
     (0xA50000570003818C#64, .jabbersRx .emac1 (.write 0xA5000057#32)),
     (0xA500005900018190#64, .fcsErrorsRx .emac0 (.write 0xA5000059#32)),
     (0x0000000000020194#64, .lengthErrorsRx .pmac1 .read),
     (0xA500005B00038198#64, .symbolErrorsRx .emac1 (.write 0xA500005B#32)),
     (0xA500005D0001819C#64, .alignmentErrorsRx .emac0 (.write 0xA500005D#32)),
     (0x00000000000201A0#64, .resourceErrorsRx .pmac1 .read),
     (0xA500005F000381A4#64, .overrunsRx .emac1 (.write 0xA500005F#32)),
     (0xA5000061000181A8#64, .ipChecksumErrorsRx .emac0 (.write 0xA5000061#32)),
     (0x00000000000201AC#64, .tcpChecksumErrorsRx .pmac1 .read),
     (0xA5000063000381B0#64, .udpChecksumErrorsRx .emac1 (.write 0xA5000063#32)),
     (0xA5000065000181B4#64, .autoFlushedRx .emac0 (.write 0xA5000065#32))] = true := by
  decide

/-- The words of the tsu rows (30_encoding R141, R155). -/
theorem test_decode_tsu :
    decodesAll
    [(0x00000000000201BC#64, .tsuSubInc .pmac1 .read),
     (0xA5000067000381C0#64, .tsuSecHi .emac1 (.write 0xA5000067#32)),
     (0xA5000069000181D0#64, .tsuSecLo .emac0 (.write 0xA5000069#32)),
     (0x00000000000201D4#64, .tsuNsec .pmac1 .read),
     (0xA500006B000381DC#64, .tsuInc .emac1 (.write 0xA500006B#32)),
     (0xA500006D000181E0#64, .ptpTxSec .emac0 (.write 0xA500006D#32)),
     (0x00000000000201E4#64, .ptpTxNsec .pmac1 .read),
     (0xA500006F000381E8#64, .ptpRxSec .emac1 (.write 0xA500006F#32)),
     (0xA5000071000181EC#64, .ptpRxNsec .emac0 (.write 0xA5000071#32)),
     (0x00000000000201F0#64, .peerTxSec .pmac1 .read),
     (0xA5000073000381F4#64, .peerTxNsec .emac1 (.write 0xA5000073#32)),
     (0xA5000075000181F8#64, .peerRxSec .emac0 (.write 0xA5000075#32)),
     (0x00000000000201FC#64, .peerRxNsec .pmac1 .read)] = true := by
  decide

/-- The words of the queue rows (30_encoding R141, R155). -/
theorem test_decode_queue :
    decodesAll
    [(0xA500007700038400#64, .isrQ1 .emac1 (.write 0xA5000077#32)),
     (0xA500007900018404#64, .isrQ2 .emac0 (.write 0xA5000079#32)),
     (0x0000000000020408#64, .isrQ3 .pmac1 .read),
     (0xA500007B00038440#64, .txqbqpQ1 .emac1 (.write 0xA500007B#32)),
     (0xA500007D00018444#64, .txqbqpQ2 .emac0 (.write 0xA500007D#32)),
     (0x0000000000020448#64, .txqbqpQ3 .pmac1 .read),
     (0xA500007F00038480#64, .rxqbqpQ1 .emac1 (.write 0xA500007F#32)),
     (0xA500008100018484#64, .rxqbqpQ2 .emac0 (.write 0xA5000081#32)),
     (0x0000000000020488#64, .rxqbqpQ3 .pmac1 .read),
     (0xA5000083000384A0#64, .rxbufSizeQ1 .emac1 (.write 0xA5000083#32)),
     (0xA5000085000184A4#64, .rxbufSizeQ2 .emac0 (.write 0xA5000085#32)),
     (0x00000000000204A8#64, .rxbufSizeQ3 .pmac1 .read),
     (0xA5000087000384CC#64, .txBdControl .emac1 (.write 0xA5000087#32)),
     (0xA5000089000184D0#64, .rxBdControl .emac0 (.write 0xA5000089#32))] = true := by
  decide

/-- The words of the screener rows (30_encoding R141, R155). -/
theorem test_decode_screener :
    decodesAll
    [(0x0000000000020500#64, .t1_0 .pmac1 .read),
     (0xA500008B00038504#64, .t1_1 .emac1 (.write 0xA500008B#32)),
     (0xA500008D00018508#64, .t1_2 .emac0 (.write 0xA500008D#32)),
     (0x000000000002050C#64, .t1_3 .pmac1 .read),
     (0xA500008F00038540#64, .t2_0 .emac1 (.write 0xA500008F#32)),
     (0xA500009100018544#64, .t2_1 .emac0 (.write 0xA5000091#32)),
     (0x0000000000020548#64, .t2_2 .pmac1 .read),
     (0xA50000930003854C#64, .t2_3 .emac1 (.write 0xA5000093#32)),
     (0xA500009500018600#64, .ierQ1 .emac0 (.write 0xA5000095#32)),
     (0x0000000000020604#64, .ierQ2 .pmac1 .read),
     (0xA500009700038608#64, .ierQ3 .emac1 (.write 0xA5000097#32)),
     (0xA500009900018620#64, .idrQ1 .emac0 (.write 0xA5000099#32)),
     (0x0000000000020624#64, .idrQ2 .pmac1 .read),
     (0xA500009B00038628#64, .idrQ3 .emac1 (.write 0xA500009B#32)),
     (0xA500009D00018640#64, .imrQ1 .emac0 (.write 0xA500009D#32)),
     (0x0000000000020644#64, .imrQ2 .pmac1 .read),
     (0xA500009F00038648#64, .imrQ3 .emac1 (.write 0xA500009F#32)),
     (0xA50000A1000186E0#64, .ethtype_0 .emac0 (.write 0xA50000A1#32)),
     (0x00000000000206E4#64, .ethtype_1 .pmac1 .read),
     (0xA50000A3000386E8#64, .ethtype_2 .emac1 (.write 0xA50000A3#32)),
     (0xA50000A5000186EC#64, .ethtype_3 .emac0 (.write 0xA50000A5#32))] = true := by
  decide

/-- The words of the compare rows (30_encoding R141, R155). -/
theorem test_decode_compare :
    decodesAll
    [(0x0000000000020700#64, .cmpW0_0 .pmac1 .read),
     (0xA50000A700038704#64, .cmpW1_0 .emac1 (.write 0xA50000A7#32)),
     (0xA50000A900018708#64, .cmpW0_1 .emac0 (.write 0xA50000A9#32)),
     (0x000000000002070C#64, .cmpW1_1 .pmac1 .read),
     (0xA50000AB00038710#64, .cmpW0_2 .emac1 (.write 0xA50000AB#32)),
     (0xA50000AD00018714#64, .cmpW1_2 .emac0 (.write 0xA50000AD#32)),
     (0x0000000000020718#64, .cmpW0_3 .pmac1 .read),
     (0xA50000AF0003871C#64, .cmpW1_3 .emac1 (.write 0xA50000AF#32)),
     (0xA50000B100018720#64, .cmpW0_4 .emac0 (.write 0xA50000B1#32)),
     (0x0000000000020724#64, .cmpW1_4 .pmac1 .read),
     (0xA50000B300038728#64, .cmpW0_5 .emac1 (.write 0xA50000B3#32)),
     (0xA50000B50001872C#64, .cmpW1_5 .emac0 (.write 0xA50000B5#32)),
     (0x0000000000020730#64, .cmpW0_6 .pmac1 .read),
     (0xA50000B700038734#64, .cmpW1_6 .emac1 (.write 0xA50000B7#32)),
     (0xA50000B900018738#64, .cmpW0_7 .emac0 (.write 0xA50000B9#32)),
     (0x000000000002073C#64, .cmpW1_7 .pmac1 .read),
     (0xA50000BB00038740#64, .cmpW0_8 .emac1 (.write 0xA50000BB#32)),
     (0xA50000BD00018744#64, .cmpW1_8 .emac0 (.write 0xA50000BD#32)),
     (0x0000000000020748#64, .cmpW0_9 .pmac1 .read),
     (0xA50000BF0003874C#64, .cmpW1_9 .emac1 (.write 0xA50000BF#32)),
     (0xA50000C100018750#64, .cmpW0_10 .emac0 (.write 0xA50000C1#32)),
     (0x0000000000020754#64, .cmpW1_10 .pmac1 .read),
     (0xA50000C300038758#64, .cmpW0_11 .emac1 (.write 0xA50000C3#32)),
     (0xA50000C50001875C#64, .cmpW1_11 .emac0 (.write 0xA50000C5#32))] = true := by
  decide

/-- The words of the mmsl rows (30_encoding R141, R155). -/
theorem test_decode_mmsl :
    decodesAll
    [(0x0000000000020800#64, .mmslControl .pmac1 .read),
     (0xA50000C700038804#64, .mmslStatus .emac1 (.write 0xA50000C7#32)),
     (0xA50000C900018808#64, .mmslAssErr .emac0 (.write 0xA50000C9#32)),
     (0x000000000002080C#64, .mmslAssOk .pmac1 .read),
     (0xA50000CB00038810#64, .mmslFragRx .emac1 (.write 0xA50000CB#32)),
     (0xA50000CD00018814#64, .mmslFragTx .emac0 (.write 0xA50000CD#32)),
     (0x0000000000020818#64, .mmslIntStatus .pmac1 .read),
     (0xA50000CF0003881C#64, .mmslIntEn .emac1 (.write 0xA50000CF#32)),
     (0xA50000D100018820#64, .mmslIntDis .emac0 (.write 0xA50000D1#32)),
     (0x0000000000020824#64, .mmslIntMask .pmac1 .read)] = true := by
  decide

/-- An access at an offset of no row, of another width, or that is not aligned decodes to no access (R142, R143;
20_memory R101). -/
theorem test_decode_rejects :
    decodeTableWord 16 0x0038 = none ∧ decodeTableWord 16 0x0002 = none
      ∧ (decode 0x0000000000040000#64).toOption = none ∧ (decode 0x0000000000037FFC#64).toOption = none := by
  decide

/-! ### Ill-formed accesses -/

/-- The parameters with two queues on pMAC0. -/
def twoQueues : Params := { Config.defaultParams with nqPmac0 := 2 }

/-- Each check of well-formedness refuses an access, at its boundary (10_state R31, R33). -/
theorem test_ill_formed :
    (Instr.isrQ1 .emac0 .read).wellFormed Config.defaultParams = false
      ∧ (Instr.txqbqpQ2 .pmac0 .read).wellFormed twoQueues = false
      ∧ (Instr.rxqbqpQ2 .pmac0 .read).wellFormed twoQueues = false
      ∧ (Instr.rxbufSizeQ3 .emac1 .read).wellFormed Config.defaultParams = false
      ∧ (Instr.t1_3 .pmac0 .read).wellFormed { Config.defaultParams with nT1 := 3 } = false
      ∧ (Instr.t2_1 .pmac0 .read).wellFormed { Config.defaultParams with nT2 := 1 } = false
      ∧ (Instr.ierQ2 .pmac0 .read).wellFormed twoQueues = false
      ∧ (Instr.idrQ1 .emac1 .read).wellFormed Config.defaultParams = false
      ∧ (Instr.imrQ3 .pmac0 .read).wellFormed twoQueues = false
      ∧ (Instr.ethtype_2 .pmac0 .read).wellFormed { Config.defaultParams with nEth := 2 } = false
      ∧ (Instr.cmpW1_5 .pmac0 .read).wellFormed { Config.defaultParams with nCmp := 5 } = false
      ∧ (Instr.mmslControl .emac0 .read).wellFormed Config.defaultParams = false := by
  decide

/-- The same accesses are well formed just inside the boundary. -/
theorem test_well_formed :
    (Instr.isrQ3 .pmac0 .read).wellFormed Config.defaultParams = true
      ∧ (Instr.txqbqpQ1 .pmac0 .read).wellFormed twoQueues = true
      ∧ (Instr.t1_2 .pmac0 .read).wellFormed { Config.defaultParams with nT1 := 3 } = true
      ∧ (Instr.cmpW1_4 .pmac0 .read).wellFormed { Config.defaultParams with nCmp := 5 } = true
      ∧ (Instr.mmslIntMask .pmac1 .read).wellFormed Config.defaultParams = true := by
  decide

/-- Configurations outside 00_scope R8 are refused by a step (REG-26). -/
theorem test_parameters :
    ({ Config.defaultParams with nqPmac0 := 5 } : Params).ok = false
      ∧ ({ Config.defaultParams with nqEmac1 := 0 } : Params).ok = false
      ∧ ({ Config.defaultParams with nsRollover := 511 } : Params).ok = false
      ∧ ({ Config.defaultParams with nsRollover := 512 } : Params).ok = true
      ∧ step { State.reset with cfg := { Config.defaultParams with nqPmac0 := 5 } } = .refused .parameterConstraint := by
  refine ⟨by decide, by decide, by decide, by decide, rfl⟩

/-! ### Small states -/

/-- The value a host read returned. -/
def readOf : Result → Option Word
  | .next t => some t.rdata
  | _ => none

/-- The fault a step ends in. -/
def faultOf : Result → Option Fault
  | .fault r => some r
  | _ => none

/-- The refusal a step ends in. -/
def refusalOf : Result → Option Refusal
  | .refused r => some r
  | _ => none

/-- Device pMAC0 after a step. -/
def devAfter : Result → Option Device
  | .next t => some t.pmac0
  | _ => none

/-- The state with pMAC0 changed. -/
def onP0 (f : Device → Device) (s : State) : State := s.modDev .pmac0 f

theorem next_of_devAfter {r : Result} (h : (devAfter r).isSome = true) : ∃ t, r = .next t := by
  cases r with
  | next t => exact ⟨t, rfl⟩
  | fault _ => cases h
  | refused _ => cases h

/-- Transmit and receive enabled on pMAC0, queue 0 active with both its rings at 0x1000 and 0x3000. -/
def running : State :=
  onP0 (fun x => ({ x with ncr := 0x0000000C#32, tsr := 0x00000020#32, rsr := 0x00000003#32 }.setQueue 0
    { x.queue 0 with isr := 0x88#32, txBase := 0x1000#32, txCur := 0x1000#32, txActive := true,
                     rxBase := 0x3000#32, rxCur := 0x3000#32 })) State.reset

/-- A one-slot transmit ring at 0x1000 that holds a frame of 16 bytes at 0x2000, the first 8 of them written. -/
def txMem : Memory :=
  Memory.writeBytes (Memory.write32 (Memory.write32 [] 0x1000#32 0x2000#32) 0x1004#32 0x40008010#32) 0x2000
    [0xFF, 0xFF, 0xFF, 0xFF, 0xFF, 0xFF, 2, 3]

/-- `running` with that frame to send. -/
def toSend : State := { running with mem := txMem }

/-- The first descriptor's address and w1. -/
def firstDesc : Word × Word := (0x1000#32, 0x40008010#32)

/-- A frame in flight of that descriptor and of a second one at 0x1010. -/
def inFlight (und buserr : Bool) : TxFrame :=
  ⟨[firstDesc, (0x1010#32, 0x00008004#32)], [0xFF, 0xFF, 0xFF, 0xFF, 0xFF, 0xFF, 2, 3], false, und, buserr,
    ⟨0x0000000C#32, 0x00080000#32, 0x00180004#32, 0x000188A8#32, 0, 0⟩⟩

/-- `running` with that frame in flight on queue 0. -/
def sending (und buserr : Bool) : State :=
  onP0 (fun x => x.modQueue 0 fun y => { y with inflight := some (inFlight und buserr) }) running

def noLoop : RxDraws := ⟨false, none, [], false, []⟩
def done (o : TxOutcome) : TxDraws := ⟨o, 1, [], noLoop⟩

/-- F_A of 95_test_vectors.md: an ARP request to the broadcast address. -/
def frameA : List Byte :=
  [0xFF, 0xFF, 0xFF, 0xFF, 0xFF, 0xFF, 0x00, 0x04, 0xA3, 0x12, 0x34, 0x56, 0x08, 0x06, 0x00, 0x01,
   0x08, 0x00, 0x06, 0x04, 0x00, 0x01, 0x00, 0x04, 0xA3, 0x12, 0x34, 0x56, 0xC0, 0xA8, 0x00, 0x02,
   0x00, 0x00, 0x00, 0x00, 0x00, 0x00, 0xC0, 0xA8, 0x00, 0x01, 0x00, 0x00, 0x00, 0x00, 0x00, 0x00,
   0x00, 0x00, 0x00, 0x00, 0x00, 0x00, 0x00, 0x00, 0x00, 0x00, 0x00, 0x00, 0x07, 0x61, 0xB9, 0x10]

/-- A PTP Sync over IPv4 to 224.0.1.129, port 319, as F_SYNC4 of 95_test_vectors.md, without its FCS. -/
def sync4 : List Byte :=
  [0x01, 0x00, 0x5E, 0x00, 0x01, 0x81, 0x00, 0x04, 0xA3, 0x12, 0x34, 0x56, 0x08, 0x00, 0x45, 0x00,
   0x00, 0x48, 0x00, 0x01, 0x00, 0x00, 0x01, 0x11, 0x17, 0x79, 0xC0, 0xA8, 0x00, 0x02, 0xE0, 0x00,
   0x01, 0x81, 0x01, 0x3F, 0x01, 0x3F, 0x00, 0x34, 0x00, 0x00, 0x00, 0x02, 0x00, 0x2C] ++ List.replicate 40 0

/-- A one-slot receive ring at 0x3000 whose buffer is at 0x4000. -/
def rxMem : Memory := Memory.write32 [] 0x3000#32 0x00004002#32

/-- `running` with that ring. -/
def toReceive : State := { running with mem := rxMem }

/-- The MMSL of pMAC0 verifying, with a packet sent `n` times. -/
def verifying (n : Nat) (waiting : Bool) : State :=
  { State.reset with mmsl0 :=
    { Mmsl.reset with control := 0x00000A04#32, vstat := .verifying, vcount := n, waiting := waiting, intStatus := 1 } }

/-! ### Single steps, with the results of 95_test_vectors.md -/

/-- REG-4, REG-5. -/
theorem test_ncr :
    ((devAfter (exec (.ncrWrite .pmac0 0x0000020C#32) State.reset)).map fun x => (x.ncr, x.txGo))
        = some (0x0000000C#32, true)
      ∧ faultOf (exec (.ncrWrite .pmac0 0x0000000D#32) State.reset) = some (.reservedBitWritten 0x000 1#32) := by
  decide

/-- REG-9, REG-10, REG-11. -/
theorem test_write_checks :
    faultOf (exec (.txqbqp .pmac0 (.write 0x80001000#32)) running) = some .queuePointerWriteWhileEnabled
      ∧ faultOf (exec (.dmacfg .pmac0 (.write 0x20180004#32)) running) = some .modeChangeWhileEnabled
      ∧ refusalOf (exec (.dmacfg .pmac0 (.write 0x40180004#32)) State.reset) = some .hardwiredBitWritten
      ∧ refusalOf (exec (.ncfgr .pmac0 (.write 0x01080000#32)) State.reset) = some .rxChecksumOffload := by
  decide

/-- REG-6, REG-7, REG-8. -/
theorem test_queue_pointers :
    refusalOf (exec (.txqbqp .pmac0 (.write 0x80001001#32)) State.reset) = some .queue0Disable
      ∧ faultOf (exec (.txqbqp .pmac0 (.write 0x80001006#32)) State.reset) = some (.reservedBitWritten 0x01C 6#32)
      ∧ ((devAfter (exec (.txqbqpQ1 .pmac0 (.write 0x80005000#32)) State.reset)).map fun x =>
          ((x.queue 1).txBase, (x.queue 1).txQdis)) = some (0x80005000#32, false) := by
  decide

/-- REG-13, REG-15. -/
theorem test_illegal_values :
    faultOf (exec (.stackedVlan .pmac0 (.write 0x000388A8#32)) State.reset) = some .illegalVlanDepth
      ∧ (devAfter (exec (.stackedVlan .pmac0 (.write 0x000288A8#32)) State.reset)).map (·.stackedVlan)
        = some 0x000288A8#32
      ∧ faultOf (exec (.tsuNsec .pmac0 (.write 1000000000#32)) State.reset) = some .illegalNanoseconds
      ∧ (devAfter (exec (.tsuNsec .pmac0 (.write 999999999#32)) State.reset)).map (·.tsu.ns)
        = some 999999999#30 := by
  decide

/-- REG-16. -/
theorem test_verify_time :
    faultOf (exec (.mmslControl .pmac0 (.write 0x00000004#32)) State.reset) = some .illegalVerifyTime
      ∧ faultOf (exec (.mmslControl .pmac0 (.write 0x00008104#32)) State.reset) = some .illegalVerifyTime
      ∧ (devAfter (exec (.mmslControl .pmac0 (.write 0x00008004#32)) State.reset)).isSome = true := by
  decide

/-- REG-17. -/
theorem test_interrupt_mask :
    (devAfter (exec (.ier .pmac0 (.write 0x00000080#32)) State.reset)).map (fun x => (x.queue 0).imr)
        = some 0x07FC0C7E#32
      ∧ readOf (exec (.ier .pmac0 .read) State.reset) = some 0 := by
  decide

/-- REG-19, REG-21. -/
theorem test_status :
    (devAfter (exec (.tsr .pmac0 (.write 0x00000021#32)) running)).map (·.tsr) = some 0
      ∧ readOf (exec (.isr .pmac0 .read) running) = some 0x88#32
      ∧ (devAfter (exec (.isr .pmac0 .read) running)).map (fun x => (x.queue 0).isr) = some 0 := by
  decide

/-- REG-22: no register at 0x038; T1[4] beyond its count; a queue register of an eMAC. -/
theorem test_unmapped :
    faultOf (runDecoded (decodeAt .pmac0 0x038 (.write 1)) State.reset) = some (.unmappedWrite 0x038)
      ∧ faultOf (runDecoded (decodeAt .pmac0 0x510 (.write 1)) State.reset) = some (.unmappedWrite 0x510)
      ∧ faultOf (exec (.txqbqpQ1 .emac0 (.write 0)) State.reset) = some (.unmappedWrite 0x440) := by
  decide

/-- The CRC-32 check value of 95_test_vectors.md section 2, and the FCS of F_A. -/
theorem test_crc :
    crc32 [0x31, 0x32, 0x33, 0x34, 0x35, 0x36, 0x37, 0x38, 0x39] = 0xCBF43926#32 ∧ fcsOk false frameA = true := by
  decide +kernel

/-- A tick that carries out of the sub-nanoseconds and one that rolls over into the seconds (44_tsu R462). -/
theorem test_tick :
    (Tsu.tick ⟨7, 5, 0xFFFFFF#24, 10, 1⟩ 1000000000 = (⟨7, 16, 0, 10, 1⟩, false))
      ∧ (Tsu.tick ⟨7, 999999995, 0, 10, 0⟩ 1000000000 = (⟨8, 5, 0, 10, 0⟩, true)) := by
  decide

/-! ### States and operands that meet the hypotheses of the statements -/

/-- EncodeDecode and DecodeTable speak of words such as this one. -/
theorem test_wit_decode : decode 0xFFFFFFFF00028824#64 = .ok (.mmslIntMask .pmac1 (.write 0xFFFFFFFF#32)) := by
  rfl

/-- DecodeTable: a 32-bit transaction at the last offset with a row. -/
theorem test_wit_DecodeTable :
    (0x0000000000000824#64).extractLsb' 18 14 = 0#14
      ∧ (Instr.mmslIntMask .emac0 .read).off = ((keyOf 0x0000000000000824#64).extractLsb' 0 15).toNat := by
  decide

/-- StepRunsDecoded. -/
theorem test_wit_StepRunsDecoded :
    ∃ (s : State) (t : BitVec 64) (rest : List Input) (i : Instr), s.cfg.ok = true ∧ s.inputs = .mmio t :: rest
      ∧ decode t = .ok i :=
  ⟨{ running with inputs := [.mmio 0x0000000000000014#64, .tsuTick .pmac0] }, 0x0000000000000014#64, [.tsuTick .pmac0],
    .tsr .pmac0 .read, rfl, rfl, rfl⟩

/-- The device whose window AccessOutcomes finds for a bus address. -/
def windowAt (a : Word) : Option Dev :=
  [Dev.pmac0, .emac0, .pmac1, .emac1].find? fun d =>
    decide ((Config.base d).toNat ≤ a.toNat ∧ a.toNat < (Config.base d).toNat + 0x1000)

/-- AccessOutcomes: a transaction of another width, one at an odd offset, and one of 32 bits; a bus access of two bytes; the
first register of a window. -/
theorem test_wit_AccessOutcomes :
    (0x0000000000040000#64).extractLsb' 18 14 ≠ 0#14
      ∧ ((keyOf 0x0000000000000FFF#64).extractLsb' 0 15).toNat % 4 ≠ 0
      ∧ (0x0000000000038038#64).extractLsb' 18 14 = 0#14
      ∧ windowAt (Config.base .pmac0) = some .pmac0 ∧ (2 : Nat) ≠ 4
      ∧ ((Instr.ncrRead .pmac0).dev = .pmac0 ∧ (Instr.ncrRead .pmac0).off = 0 ∧ (Instr.ncrRead .pmac0).op = .read) := by
  refine ⟨by decide, by decide, by decide, ?_, by decide, by decide⟩
  simp [windowAt]

/-- AccessOutcomes: wherever the four windows lie, some address is in none of them. -/
theorem test_wit_AccessOutcomes_outside : ∃ a : Word, windowAt a = none := by
  by_contra h
  have in_window (k : Fin 5) : ∃ j : Fin 4, (Config.base (Dev.ofCode (BitVec.ofNat 2 j.val))).toNat ≤ 0x1000 * k.val
      ∧ 0x1000 * k.val < (Config.base (Dev.ofCode (BitVec.ofNat 2 j.val))).toNat + 0x1000 := by
    obtain ⟨d, hd⟩ := Option.ne_none_iff_exists'.mp fun e => h ⟨BitVec.ofNat 32 (0x1000 * k.val), e⟩
    have hp := List.find?_some hd
    have hk : (BitVec.ofNat 32 (0x1000 * k.val)).toNat = 0x1000 * k.val := by
      simp only [BitVec.toNat_ofNat]; omega
    simp only [decide_eq_true_eq, hk] at hp
    cases d
    · exact ⟨0, hp⟩
    · exact ⟨1, hp⟩
    · exact ⟨2, hp⟩
    · exact ⟨3, hp⟩
  choose j hj using in_window
  obtain ⟨k, l, hne, he⟩ := Fintype.exists_ne_map_eq_of_card_lt j (by decide)
  have hk := hj k
  have hl := hj l
  rw [he] at hk
  omega

/-- A bus access at the first address of a window runs that register's access (20_memory R100). -/
theorem test_bus : runInput (.bus (Config.base .pmac0) 4 (.write 0x0000000C#32)) State.reset
    = exec (.ncrWrite .pmac0 0x0000000C#32) State.reset := by
  simp only [runInput, runBus, windowOf, inWindow, Nat.le_refl, decide_true, Bool.true_and]
  simp only [Nat.sub_self, Nat.lt_add_right_iff_pos, Nat.zero_lt_succ, decide_true, if_true, ne_eq, not_true_eq_false,
    if_false]
  rfl

/-- AccessOutcomes: a hole of the table, a register beyond its count, one of another device, the last offset. -/
theorem test_wit_AccessOutcomes_unmapped :
    hasRegister State.reset.cfg .pmac0 0x038 = false ∧ hasRegister State.reset.cfg .pmac0 0x510 = false
      ∧ hasRegister State.reset.cfg .emac1 0x800 = false ∧ hasRegister State.reset.cfg .pmac0 0xFFC = false := by
  decide

/-- A configuration with every screener and compare register that R7 allows. -/
def allScreeners : Params := { Config.defaultParams with nT1 := 16, nT2 := 16, nEth := 8, nCmp := 32 }

/-- ResetValues: the first and the last register; a register that a configuration may lack; the last compare register of the
widest configuration, which has no row. -/
theorem test_wit_ResetValues :
    (Instr.ncrRead .emac1).op = .read ∧ (Instr.ncrRead .emac1).wellFormed Config.defaultParams = true
      ∧ (Instr.mmslIntMask .pmac0 .read).op = .read
      ∧ (Instr.mmslIntMask .pmac0 .read).wellFormed Config.defaultParams = true
      ∧ twoQueues.ok = true
      ∧ (Instr.txqbqpQ1 .pmac0 .read).wellFormed { State.reset with cfg := twoQueues }.cfg = true
      ∧ allScreeners.ok = true ∧ hasRegister allScreeners .emac1 0x7FC = true ∧ hasRegister allScreeners .pmac0 0x53C = true
      ∧ (9 < allScreeners.nT1 ∧ 15 < allScreeners.nT2 ∧ 7 < allScreeners.nEth ∧ 31 < allScreeners.nCmp) := by
  decide

/-- A device with every kind of register away from its reset value. -/
def busyDevice : Device :=
  { Device.reset with
    ncr := 0x0910001E#32, ncfgr := 0x040000FF#32, dmacfg := 0x30FF08DF#32 &&& ~~~0xC0#32, tsr := 0x1F7#32, rsr := 0xF#32,
    jml := 64#32, stackedVlan := 0x0002FFFF#32, hrb := 1#32,
    tsu := ⟨1, 999999999, 1, 0xFF#32, 0xFFFFFF#32⟩,
    queues := #v[
      { Queue.reset 0 with isr := 0x07FC0CFE#32, imr := 0, txBase := 0x1000#32, txCur := 0xFFFFFFF8#32, txActive := true,
                           inflight := some (inFlight true false) },
      { Queue.reset 1 with txQdis := false }, Queue.reset 2, Queue.reset 3] }

/-- A state of four such devices, about to tick, with a byte in memory. -/
def busy : State :=
  { State.reset with
    pmac0 := busyDevice, pmac1 := busyDevice, mem := [(0, 1)], inputs := [.tsuTick .pmac0],
    emac0 := { busyDevice with queues := #v[busyDevice.queue 0, Queue.reset 1, Queue.reset 2, Queue.reset 3] },
    mmsl0 := { Mmsl.reset with control := 0x00008004#32, vstat := .verifying, vcount := 3, waiting := true } }

/-- `busy` takes a step. -/
theorem test_wit_step : ∃ t, step busy = .next t := ⟨_, rfl⟩

/-- StepKeepsMemoryWf. -/
theorem test_wit_StepKeepsMemoryWf : busy.MemoryWf := by unfold State.MemoryWf; decide

/-- StepKeepsNanoseconds, with the least nanoseconds a write may not set. -/
theorem test_wit_nanoseconds :
    0x3B9ACA00#32 &&& 0xC0000000#32 = 0 ∧ busy.cfg.nsRollover ≤ field 0x3B9ACA00#32 0 30
      ∧ field 0x3B9AC9FF#32 0 30 < busy.cfg.nsRollover := by
  decide

/-- StepKeepsNanoseconds. -/
theorem test_wit_StepKeepsNanoseconds : busy.NsInRange := by intro d; cases d <;> decide

/-- StepKeepsPointersAligned. -/
theorem test_wit_StepKeepsPointersAligned : busy.PointersAligned := by
  intro d q
  cases d <;> fin_cases q <;> constructor <;> decide

theorem test_busyDevice_legal : busyDevice.RegistersLegal := by constructor <;> decide

/-- StepKeepsRegistersLegal. -/
theorem test_wit_StepKeepsRegistersLegal : busy.RegistersLegal := by
  intro d
  cases d with
  | pmac0 => exact test_busyDevice_legal
  | pmac1 => exact test_busyDevice_legal
  | emac0 => constructor <;> decide
  | emac1 => constructor <;> decide

/-- StepKeepsTxOrderly: two queues of pMAC0 enabled, a frame in flight on one. -/
theorem test_wit_StepKeepsTxOrderly : busy.TxOrderly := by
  intro d
  refine ⟨by cases d <;> decide, ?_⟩
  cases d <;> constructor <;> decide

/-- StepKeepsMmslLegal: the last attempt of a verification, waiting. -/
theorem test_wit_StepKeepsMmslLegal : busy.MmslLegal := by
  intro m
  cases m <;> constructor <;> decide

/-- AccessTouchesOneDevice: a write that acts. -/
theorem test_wit_access : ∃ t, exec (.ncrWrite .pmac0 0x00000600#32) running = .next t := ⟨_, rfl⟩

/-- AccessKinds: a read beside the COR range. -/
theorem test_wit_AccessKinds_read :
    running.cfg.ok = true ∧ (Instr.tsuSubInc .pmac0 .read).wellFormed running.cfg = true
      ∧ isCor (Instr.tsuSubInc .pmac0 .read).off = false ∧ isCor 0x1B4 = true ∧ isCor 0x1B8 = false := by
  decide

/-- AccessKinds: writes to the first and the last PTP event register, and the ends of a COR range. -/
theorem test_wit_AccessKinds_write :
    isReadOnly (Instr.ptpTxSec .emac0 (.write 1)).off = true ∧ isReadOnly (Instr.peerRxNsec .emac0 (.write 1)).off = true
      ∧ isReadOnly (Instr.octTxLo .pmac0 (.write 1)).off = true
      ∧ (Instr.peerRxNsec .emac0 (.write 1)).wellFormed running.cfg = true ∧ isReadOnly 0x200 = false := by
  decide

/-- InterruptReturn, QueuePointers, InterruptRegisters: the last queue of a device; an unmasked event. -/
theorem test_wit_queue :
    (3 : Fin 4).val < State.reset.cfg.nQueues .pmac0 ∧ (0 : Fin 4).val < State.reset.cfg.nQueues .emac1
      ∧ 0x80#32 &&& ~~~0#32 &&& isrImpl 3 ≠ 0 := by
  decide

/-- An MMSL that waits at the limit of its attempts, whose VCHG is unmasked. -/
def mmslRaised : State :=
  { verifying 3 true with mmsl0 := { (verifying 3 true).mmsl0 with control := 0x00000A04#32, intMask := 0 } }

/-- InterruptReturn: the MMSL's line is high, and low after the read of its status (MM-14); a timeout and a frame that fails
reassembly then raise it again. -/
theorem test_wit_InterruptReturn_mmsl :
    Dev.pmac0.hasMmsl = true ∧ (mmslRaised.mmsl .mac0).line = true
      ∧ (∃ t, exec (.mmslIntStatus .pmac0 .read) mmslRaised = .next t ∧ (t.mmsl .mac0).line = false
        ∧ ∃ u, runInput (.mmTimeout .mac0) t = .next u ∧ (u.mmsl .mac0).vstat ≠ (mmslRaised.mmsl .mac0).vstat
          ∧ (u.mmsl .mac0).line = true)
      ∧ (mmslRaised.mmsl .mac0).intMask.getLsbD 0 = false ∧ (mmslRaised.mmsl .mac0).intMask.getLsbD 1 = false
      ∧ arrivalOffered ⟨frameA, .preemptable, 2, true⟩ (mmslRaised.mmsl .mac0) = true
      ∧ ncrLbLocal (mmslRaised.dev .pmac0).ncr = false ∧ rxDrawsInSet noLoop (mmslRaised.cfg.nQueues .pmac0) = true :=
  ⟨rfl, by decide, ⟨_, rfl, by decide, _, rfl, by decide, by decide⟩, by decide, by decide, by decide, by decide,
    by decide⟩

/-- NcrAccess, StoredRegisters: writes with and without a reserved bit. -/
theorem test_wit_reserved :
    0x0000020C#32 &&& ncrRsvd = 0 ∧ 0x0000000D#32 &&& ncrRsvd ≠ 0 ∧ 0x0000FFFF#32 &&& 0xFFFF0000#32 = 0
      ∧ 0x00010000#32 &&& 0xFFFF0000#32 ≠ 0 := by
  decide

/-- StoredRegisters: the last register of each family by default, and of the widest configuration. -/
theorem test_wit_StoredRegisters :
    2 + 1 < State.reset.cfg.nQueues .pmac1 ∧ 3 < State.reset.cfg.nT1 ∧ 3 < State.reset.cfg.nT2
      ∧ 3 < State.reset.cfg.nEth ∧ 11 < State.reset.cfg.nCmp
      ∧ allScreeners.ok = true ∧ (15 : Fin 16).val < allScreeners.nT1 ∧ (15 : Fin 16).val < allScreeners.nT2
      ∧ (7 : Fin 8).val < allScreeners.nEth ∧ (31 : Fin 32).val < allScreeners.nCmp := by
  decide

/-- The last compare register of the widest configuration stores (10_state R60; log 8). -/
theorem test_last_compare :
    (devAfter (runDecoded (decodeAt .pmac0 0x7FC (.write 0x305#32)) { State.reset with cfg := allScreeners })).map
        (·.cmpW1[(31 : Fin 32)]) = some 0x305#32
      ∧ faultOf (runDecoded (decodeAt .pmac0 0x7FC (.write 0x305#32)) State.reset) = some (.unmappedWrite 0x7FC) := by
  decide

/-- MmslControlWrite and MmslRegisters: a pMAC; a reserved bit; VTIME at 0, 1, 128 and 129. -/
theorem test_wit_MmslControlWrite :
    Dev.pmac1.hasMmsl = true ∧ 0x00000140#32 &&& 0xFFFF00C0#32 ≠ 0
      ∧ (0x0000003F#32 &&& 0xFFFF00C0#32 = 0 ∧ mmVtime 0x0000003F#32 = 0)
      ∧ (0x00008100#32 &&& 0xFFFF00C0#32 = 0 ∧ 128 < mmVtime 0x00008100#32)
      ∧ (0x00000104#32 &&& 0xFFFF00C0#32 = 0 ∧ mmVtime 0x00000104#32 = 1)
      ∧ (0x00008006#32 &&& 0xFFFF00C0#32 = 0 ∧ mmVtime 0x00008006#32 = 128) := by
  decide

/-- TsuTickResult and TsuNeverDecreases: a tick below the threshold and one at it. -/
theorem test_wit_TsuTickResult :
    511 < busy.cfg.nsRollover ∧ busy.cfg.nsRollover ≤ 2 ^ 30 ∧ (busy.dev .pmac0).tsu.ns.toNat < busy.cfg.nsRollover
      ∧ busy.cfg.nsRollover ≤ (busy.dev .pmac0).tsu.ns.toNat + field (busy.dev .pmac0).tsu.inc 0 8
      ∧ (running.dev .pmac0).tsu.ns.toNat + field (running.dev .pmac0).tsu.inc 0 8 < running.cfg.nsRollover := by
  decide

/-- TsuNeverDecreases: a tick, and a step that is none. -/
theorem test_wit_TsuNeverDecreases :
    busy.cfg.ok = true ∧ (busy.dev .pmac0).tsu.sec ≠ BitVec.allOnes 64 ∧ writesTsu .pmac0 (.tsuTick .pmac0) = false
      ∧ writesTsu .pmac0 (.hostLoad 0) = false ∧ writesTsu .pmac0 (.mmio 0x00000000000081DC#64) = false
      ∧ writesTsu .pmac0 (.mmio 0x00000000000081D4#64) = true ∧ (devAfter (runInput (.tsuTick .pmac0) busy)).isSome = true
      ∧ (devAfter (runInput (.hostLoad 0) busy)).isSome = true := by
  decide

/-- Memory with two transmit descriptors at 0x1000, of 8 bytes each. -/
def twoDescs (w1 w1' : Word) : Memory :=
  Memory.write32 (Memory.write32 (Memory.write32 (Memory.write32 [] 0x1000#32 0x2000#32) 0x1004#32 w1)
    0x1008#32 0x2008#32) 0x100C#32 w1'

/-- The first of them, and both, as transmit chains. -/
theorem twoDescs_chain {w1' : Word} (h : w1' = 0x40008008#32 ∨ w1' = 0x40000008#32) :
    TxChain (twoDescs 0x8#32 w1') 0x1000#32 0x1000#32 8 0x1000#32 [(0x1000#32, 0x8#32)] 0x1008#32
      ∧ TxChain (twoDescs 0x8#32 w1') 0x1000#32 0x1000#32 8 0x1000#32 [(0x1000#32, 0x8#32), (0x1008#32, w1')] 0x1000#32
      ∧ TxBuffersFit (twoDescs 0x8#32 w1') [(0x1000#32, 0x8#32), (0x1008#32, w1')] := by
  rcases h with rfl | rfl <;>
    exact ⟨⟨rfl, by decide, by decide, 0x1008#32, by decide, by simp, rfl⟩,
      ⟨rfl, by decide, by decide, 0x1008#32, by decide, fun _ => ⟨by decide, by decide⟩,
        rfl, by decide, by decide, 0x1000#32, by decide, by simp, rfl⟩,
      by simp only [TxBuffersFit, List.forall_mem_cons]; exact ⟨by decide, by decide, by simp⟩⟩

/-- TxFetchStops: a software-owned descriptor at the frame's start; a frame whose second descriptor is software-owned, and
one that comes round without LAST. -/
theorem test_wit_TxFetchStops :
    (NoBusErr [] running.cfg ∧ txFetchEnabled running.cfg .pmac0 0 (running.dev .pmac0) = true
        ∧ txUsed (Memory.read32 (Memory.write32 [] 0x1004#32 0x80000000#32) 0x1004#32) = true)
      ∧ (TxChain (twoDescs 0x8#32 0x80000000#32) 0x1000#32 0x1000#32 8 0x1000#32 [(0x1000#32, 0x8#32)] 0x1008#32
        ∧ TxBuffersFit (twoDescs 0x8#32 0x80000000#32) [(0x1000#32, 0x8#32)] ∧ txLast 0x8#32 = false
        ∧ txUsed (Memory.read32 (twoDescs 0x8#32 0x80000000#32) 0x100C#32) = true)
      ∧ TxChain (twoDescs 0x8#32 0x40000008#32) 0x1000#32 0x1000#32 8 0x1000#32
        [(0x1000#32, 0x8#32), (0x1008#32, 0x40000008#32)] 0x1000#32 ∧ txLast 0x40000008#32 = false :=
  ⟨⟨⟨rfl, rfl⟩, rfl, rfl⟩,
    ⟨⟨rfl, by decide, by decide, 0x1008#32, by decide, by simp, rfl⟩,
      by simp only [TxBuffersFit, List.forall_mem_cons]; exact ⟨by decide, by simp⟩, by decide, by decide⟩,
    (twoDescs_chain (.inr rfl)).2.1, by decide⟩

/-- TxFetchBusErrors, with accesses 0 to 9 for the first descriptor of 8 bytes and 10 to 19 for the second: an error on the
second's words; on its first byte, and on the first's; on the first's last byte before a software-owned one; with a second
error on the ownership word behind it, and on the address word after that. -/
theorem test_wit_TxFetchBusErrors :
    (running.cfg.holes = [] ∧ txFetchEnabled running.cfg .pmac0 0 (running.dev .pmac0) = true ∧ txLast 0x8#32 = false)
      ∧ (∀ w1', w1' = 0x40008008#32 ∨ w1' = 0x40000008#32 →
        TxChain (twoDescs 0x8#32 w1') 0x1000#32 0x1000#32 8 0x1000#32 [(0x1000#32, 0x8#32)] 0x1008#32
        ∧ TxChain (twoDescs 0x8#32 w1') 0x1000#32 0x1000#32 8 0x1000#32 [(0x1000#32, 0x8#32), (0x1008#32, w1')] 0x1000#32
        ∧ TxBuffersFit (twoDescs 0x8#32 w1') [(0x1000#32, 0x8#32), (0x1008#32, w1')])
      ∧ (txLast 0x40008008#32 = true ∧ txLast 0x40000008#32 = false
        ∧ txUsed (Memory.read32 (twoDescs 0x8#32 0x40008008#32) 0x100C#32) = false
        ∧ txUsed (Memory.read32 (twoDescs 0x8#32 0x80000000#32) 0x100C#32) = true)
      ∧ (10 = ([((0x1000#32 : Word), (0x8#32 : Word))].map fun p => txLen p.2 + 2).sum ∧ ∀ j ∈ [11, 10, 30], 10 ≤ j)
      ∧ (0 + 2 ≤ 2 ∧ 2 < 0 + 2 + txLen 0x8#32
        ∧ ∀ j ∈ [2, 9, 12], j < 0 + 2 + txLen 0x8#32 ∨ 0 + 2 + txLen 0x8#32 + 2 * 1 ≤ j)
      ∧ (10 + 2 ≤ 12 ∧ 12 < 10 + 2 + txLen 0x40008008#32 ∧ ∀ j ∈ [12], j < 10 + 2 + txLen 0x40008008#32)
      ∧ (∀ j ∈ [9], j < 0 + 2 + txLen 0x8#32) ∧ 0 + 2 + txLen 0x8#32 + 2 * 0 ∈ [10, 9]
      ∧ (∀ j ∈ [9, 11], j < 0 + 2 + txLen 0x8#32 ∨ 0 + 2 + txLen 0x8#32 + 2 * 0 ≤ j)
      ∧ 0 + 2 + txLen 0x8#32 + 1 ∈ [9, 11] :=
  ⟨⟨rfl, rfl, by decide⟩, fun _ h => twoDescs_chain h, ⟨by decide, by decide, by decide, by decide⟩, by decide⟩

/-- How a fetch ends: TSR, ISR, whether the queue is active, its pointer, and of a frame in flight the numbers of its
descriptors and bytes and its two marks. -/
structure FetchEnd where
  tsr : Word
  isr : Word
  active : Bool
  cur : Word
  frame : Option (Nat × Nat × Bool × Bool)
deriving DecidableEq, Repr

/-- How a fetch of those descriptors ends. -/
def fetchEnds (w1' : Word) (errs : List Nat) : Option FetchEnd :=
  (devAfter (runInput (.txFetch .pmac0 0 errs) { running with mem := twoDescs 0x8#32 w1' })).map fun x =>
    ⟨x.tsr, (x.queue 0).isr, (x.queue 0).txActive, (x.queue 0).txCur,
      (x.queue 0).inflight.map fun fr => (fr.descs.length, fr.data.length, fr.und, fr.buserr)⟩

/-- A bus error on a descriptor word: the queue inactive with HRESP and the pointer as it was (41_tx_ring R324 (a)). TSR and
ISR are 0x20 and 0x88 before. -/
theorem test_fetch_descriptor_errors :
    fetchEnds 0x40008008#32 [11, 10, 30] = some ⟨0x120#32, 0x888#32, false, 0x1000#32, none⟩
      ∧ fetchEnds 0x40008008#32 [11] = some ⟨0x120#32, 0x888#32, false, 0x1000#32, none⟩
      ∧ fetchEnds 0x40008008#32 [10, 9] = some ⟨0x120#32, 0x888#32, false, 0x1000#32, none⟩
      ∧ fetchEnds 0x40008008#32 [9, 11] = some ⟨0x120#32, 0x888#32, false, 0x1000#32, none⟩ := by
  decide

/-- A bus error on a byte: the frame marked, with the pointer behind it, or a ring without LAST (R324 (b); R310, R316). -/
theorem test_fetch_buffer_errors :
    fetchEnds 0x40008008#32 [12] = some ⟨0x20#32, 0x88#32, true, 0x1000#32, some (2, 8, false, true)⟩
      ∧ fetchEnds 0x40008008#32 [2, 9, 12] = some ⟨0x20#32, 0x88#32, true, 0x1000#32, some (2, 0, false, true)⟩
      ∧ fetchEnds 0x80000000#32 [9] = some ⟨0x20#32, 0x88#32, true, 0x1008#32, some (1, 0, true, true)⟩
      ∧ faultOf (runInput (.txFetch .pmac0 0 [9]) { running with mem := twoDescs 0x8#32 0x40000008#32 })
        = some .txNoLastBuffer := by
  decide

/-- TxFetchFrame: a frame of one descriptor, and one of two. -/
theorem test_wit_TxFetchFrame :
    NoBusErr [] toSend.cfg ∧ txFetchEnabled toSend.cfg .pmac0 0 (toSend.dev .pmac0) = true
      ∧ TxChain toSend.mem 0x1000#32 0x1000#32 8 0x1000#32 [firstDesc] 0x1000#32 ∧ TxBuffersFit toSend.mem [firstDesc]
      ∧ txLast firstDesc.2 = true
      ∧ TxChain (twoDescs 0x8#32 0x40008008#32) 0x1000#32 0x1000#32 8 0x1000#32
        [(0x1000#32, 0x8#32), (0x1008#32, 0x40008008#32)] 0x1000#32
      ∧ TxBuffersFit (twoDescs 0x8#32 0x40008008#32) [(0x1000#32, 0x8#32), (0x1008#32, 0x40008008#32)]
      ∧ txLast 0x40008008#32 = true :=
  ⟨⟨rfl, rfl⟩, rfl, ⟨rfl, by decide, by decide, 0x1000#32, by decide, by simp, rfl⟩,
    by simp only [TxBuffersFit, List.forall_mem_cons]; exact ⟨by decide, by simp⟩, by decide,
    (twoDescs_chain (.inl rfl)).2.1, (twoDescs_chain (.inl rfl)).2.2, by decide⟩

/-- TxFailureReported: an underrun, a late collision, an excessive collision and a bus error. -/
theorem test_wit_TxFailureReported :
    NoBusErr [] (sending true false).cfg
      ∧ ((sending true false).pmac0.queue 0).inflight = some (inFlight true false)
      ∧ (inFlight true false).descs = firstDesc :: [(0x1010#32, 0x00008004#32)]
      ∧ (sending true false).pmac0.haltReq = false
      ∧ txOutcome (inFlight true false) (.ok 0) = .und ∧ txOutcome (inFlight false true) (.ok 0) = .busErr
      ∧ txOutcome (inFlight false false) .lco = .lco ∧ txOutcome (inFlight false false) .rle = .rle
      ∧ txDrawsInSet (done (.ok 0)) (sending true false) .pmac0 (inFlight true false) 64 = true
      ∧ txDrawsInSet (done (.ok 0)) (sending false true) .pmac0 (inFlight false true) 64 = true
      ∧ txDrawsInSet (done .lco) (sending false false) .pmac0 (inFlight false false) 64 = true
      ∧ txDrawsInSet (done .rle) (sending false false) .pmac0 (inFlight false false) 64 = true :=
  ⟨⟨rfl, rfl⟩, rfl, rfl, rfl, rfl, rfl, rfl, rfl, rfl, rfl, rfl, rfl⟩

/-- TxDelivered, with the most collisions a delivery may have; TxFirstWordLast and TxWritesOnlyItsDescriptors. -/
theorem test_wit_TxDelivered :
    NoBusErr [] (sending false false).cfg
      ∧ ((sending false false).pmac0.queue 0).inflight = some (inFlight false false)
      ∧ txOutcome (inFlight false false) (.ok 15) = .ok 15 ∧ ncrLbLocal (inFlight false false).conf.ncr = false
      ∧ txDrawsInSet (done (.ok 15)) (sending false false) .pmac0 (inFlight false false)
        (txImage (sending false false).pmac0 (inFlight false false)).frame.length = true
      ∧ (devAfter (runInput (.txDone .pmac0 0 (done (.ok 15))) (sending false false))).isSome = true
      ∧ outcomeIsOk (txOutcome (inFlight true false) (.ok 0)) = false :=
  ⟨⟨rfl, rfl⟩, by decide, by decide, by decide, by decide, by decide, by decide⟩

/-- TxWriteBackError: an error on the first write, and one on the last, the first descriptor's. -/
theorem test_wit_TxWriteBackError :
    (sending false false).cfg.holes = [] ∧ (1 ∈ [2, 1] ∧ ∀ j ∈ [2, 1], 1 ≤ j) ∧ (0 ∈ [0] ∧ ∀ j ∈ [0], 0 ≤ j)
      ∧ ((sending false false).pmac0.queue 0).inflight = some (inFlight false false)
      ∧ (inFlight false false).descs = firstDesc :: [(0x1010#32, 0x00008004#32)]
      ∧ txDrawsInSet { done (.ok 15) with errs := [2, 1] } (sending false false) .pmac0 (inFlight false false)
        (txImage (sending false false).pmac0 (inFlight false false)).frame.length = true
      ∧ txDrawsInSet { done .lco with errs := [0] } (sending false false) .pmac0 (inFlight false false)
        (txImage (sending false false).pmac0 (inFlight false false)).frame.length = true
      ∧ stampStored (dmacfgTxext (inFlight false false).conf.dmacfg) (inFlight false false).conf.txBdControl
        (txImage (sending false false).pmac0 (inFlight false false)).ptp = false
      ∧ 1 ≤ ([] ++ [((0x1010#32 : Word) + 4, (0x80008004#32 : Word))]).length := by
  refine ⟨rfl, by decide, by decide, by decide, rfl, by decide, by decide, by decide, by decide⟩

/-- A bus error on the write of the first descriptor: HRESP in TSR and ISR, no TXCOMP, no TCOMP, the queue inactive
(41_tx_ring R324 (c)). TSR and ISR are 0 before. -/
theorem test_write_back_error :
    (devAfter (runInput (.txDone .pmac0 0 { done (.ok 0) with errs := [1] })
        (onP0 (fun x => ({ x with tsr := 0 }).modQueue 0 fun y => { y with isr := 0 }) (sending false false)))).map
      (fun x => (x.tsr, (x.queue 0).isr, (x.queue 0).txActive, (x.queue 0).inflight)) = some (0x100#32, 0x800#32, false, none)
      := by
  decide

/-- A Sync frame in flight in extended mode with one-step sync and every frame captured, looped back or not. -/
def syncFlight (ncr : Word) : TxFrame :=
  ⟨[firstDesc, (0x1010#32, 0x00008004#32)], sync4, false, false, false,
    ⟨ncr, 0x00080002#32, 0x20180004#32, 0x000188A8#32, 0, 0x30#32⟩⟩

/-- `running` with that frame in flight and preemption active. -/
def syncing (ncr : Word) : State :=
  { onP0 (fun x => { x.modQueue 0 (fun y => { y with inflight := some (syncFlight ncr) }) with
      tsu := { x.tsu with sec := 100, ns := 500 } }) running with
    mmsl0 := { Mmsl.reset with control := 0x00000A05#32 } }

/-- TxStepsEnabled: a queue that may fetch, and queues that may not: inactive, absent, with TE at 0, beside a frame in flight;
and draws in their sets and outside: an outcome of half duplex in full duplex and in loopback, the sixteenth collision, the
fragments of a preemptable frame of 64 bytes, a receiver's queue. -/
theorem test_wit_TxStepsEnabled :
    let fr := inFlight false false
    let s := sending false false
    let inSet (o : TxOutcome) (ncr ncfgr : Word) : Bool :=
      txDrawsInSet (done o) s .pmac0 { fr with conf := { fr.conf with ncr := ncr, ncfgr := ncfgr } } 64
    (txFetchEnabled running.cfg .pmac0 0 (running.dev .pmac0) = true
        ∧ txFetchEnabled running.cfg .pmac0 1 (running.dev .pmac0) = false
        ∧ txFetchEnabled twoQueues .pmac0 3 (running.dev .pmac0) = false
        ∧ txFetchEnabled running.cfg .pmac0 0 { running.dev .pmac0 with ncr := 0x4#32 } = false
        ∧ txFetchEnabled s.cfg .pmac0 0 (s.dev .pmac0) = false)
      ∧ (((running.dev .pmac0).queue 0).inflight = none ∧ ((s.dev .pmac0).queue 0).inflight = some fr)
      ∧ (inSet .rle 0xC#32 0 = true ∧ inSet .lco 0xC#32 2#32 = false ∧ inSet .lco 0xE#32 0 = false
        ∧ inSet (.ok 15) 0xC#32 0 = true ∧ inSet (.ok 16) 0xC#32 0 = false ∧ inSet (.ok 1) 0xE#32 0 = false
        ∧ inSet .busErr 0xC#32 0 = false ∧ inSet .und 0xE#32 2#32 = true)
      ∧ (txClass (syncing 0x0100000C#32) .pmac0 = .preemptable
        ∧ txDrawsInSet { done (.ok 0) with frags := 2 } (syncing 0x0100000C#32) .pmac0 fr 64 = false
        ∧ txDrawsInSet { done (.ok 0) with frags := 1 } (syncing 0x0100000C#32) .pmac0 fr 64 = true)
      ∧ txDrawsInSet { done (.ok 0) with loop := { noLoop with route := some 4 } } s .pmac0 fr 64 = false := by
  decide

/-- TxDelivered with a timestamp, an event message and a preemptable frame; PtpEventsRecorded and MmslCounters. -/
theorem test_wit_TxDelivered_stamped :
    ((syncing 0x0100000C#32).pmac0.queue 0).inflight = some (syncFlight 0x0100000C#32)
      ∧ txClass (syncing 0x0100000C#32) .pmac0 = .preemptable
      ∧ stampStored (dmacfgTxext (syncFlight 0x0100000C#32).conf.dmacfg) (syncFlight 0x0100000C#32).conf.txBdControl
        (txImage (syncing 0x0100000C#32).pmac0 (syncFlight 0x0100000C#32)).ptp = true
      ∧ (0x1000#32).toNat + 12 < 2 ^ 32
      ∧ eventKind (txImage (syncing 0x0100000C#32).pmac0 (syncFlight 0x0100000C#32)).ptp = some 0
      ∧ txDrawsInSet (done (.ok 0)) (syncing 0x0100000C#32) .pmac0 (syncFlight 0x0100000C#32) 90 = true
      ∧ (devAfter (runInput (.txDone .pmac0 0 (done (.ok 0))) (syncing 0x0100000C#32))).isSome = true := by
  refine ⟨by decide, by decide, by decide, by decide, by decide, by decide, by decide +kernel⟩

/-- TxDelivered in local loopback. -/
theorem test_wit_TxDelivered_loopback :
    ncrLbLocal (syncFlight 0x0100000E#32).conf.ncr = true
      ∧ txDrawsInSet (done (.ok 0)) (syncing 0x0100000E#32) .pmac0 (syncFlight 0x0100000E#32) 90 = true := by
  decide

/-- TxWritesOnlyItsDescriptors with basic descriptors: the frame stores no timestamp, so the bytes behind its first
descriptor are covered. -/
theorem test_wit_TxWritesOnlyItsDescriptors_basic :
    stampStored (dmacfgTxext (inFlight false false).conf.dmacfg) (inFlight false false).conf.txBdControl
        (txImage (sending false false).pmac0 (inFlight false false)).ptp = false
      ∧ (devAfter (runInput (.txDone .pmac0 0 (done (.ok 0))) (sending false false))).isSome = true
      ∧ ¬ inWord (0x1000#32 + 4) 0x1008 ∧ ¬ inWord (0x1010#32 + 4) 0x1008 := by
  refine ⟨by decide, by decide, ?_⟩
  unfold inWord; decide

/-- TxWritesOnlyItsDescriptors: a byte between the words written. -/
theorem test_wit_TxWritesOnlyItsDescriptors :
    ¬ inWord (0x1000#32 + 4) 0x1003 ∧ ¬ inWord (0x1010#32 + 4) 0x1003 ∧ ¬ inWord (0x1000#32 + 8) 0x1003
      ∧ ¬ inWord (0x1000#32 + 12) 0x1003 := by
  unfold inWord; decide

/-- `sending` with a halt that waits. -/
def halting : State := onP0 (fun x => { x with haltReq := true }) (sending false false)

/-- TxHaltTakesHold. -/
theorem test_wit_TxHaltTakesHold :
    (halting.dev .pmac0).haltReq = true ∧ ((halting.dev .pmac0).queue 0).inflight = some (inFlight false false)
      ∧ txDrawsInSet (done (.ok 0)) halting .pmac0 (inFlight false false)
        (txImage (halting.dev .pmac0) (inFlight false false)).frame.length = true
      ∧ (devAfter (runInput (.txDone .pmac0 0 (done (.ok 0))) halting)).isSome = true := by
  decide

/-- OneStepSyncAgrees: a Sync over IPv4 whose timestamp just fits; the second descriptor is off the timestamp words. -/
theorem test_wit_OneStepSyncAgrees :
    ptpMessage (parseFrame 0x000188A8#32 sync4.length sync4) sync4 none = some ⟨42, 0, .ipv4 34⟩
      ∧ 42 + 44 ≤ sync4.length ∧ ncrOssEn 0x0100000C#32 = true ∧ ncrOssCorr 0x0100000C#32 = false
      ∧ stampStored (dmacfgTxext 0x20180004#32) 0x30#32 (some ⟨42, 0, .ipv4 34⟩) = true
      ∧ dmacfgTxcoen 0x20180004#32 = false ∧ ncrPtpUcEn 0x0100000C#32 = false
      ∧ ∀ b, inWord (0x1010#32 + 4) b → ¬ inWord (0x1000#32 + 8) b ∧ ¬ inWord (0x1000#32 + 12) b := by
  refine ⟨by decide, by decide, by decide, by decide, by decide, by decide, by decide, fun b h => ?_⟩
  unfold inWord at *
  simp at *
  omega

/-- OneStepSyncAgrees: replace mode of a Sync frame with basic descriptors, which take no timestamp. -/
theorem test_one_step_unstored :
    let fr : TxFrame := { syncFlight 0x0100000C#32 with conf := { (syncFlight 0x0100000C#32).conf with dmacfg := 0x00180004#32 } }
    stampStored (dmacfgTxext fr.conf.dmacfg) fr.conf.txBdControl (some ⟨42, 0, .ipv4 34⟩) = false
      ∧ slice (txImage (syncing 0x0100000C#32).pmac0 fr).frame 76 10
        = [0, 0, 0, 0, 0, 100, 0, 0, 0x01, 0xF4] := by
  decide +kernel

/-- OneStepSyncAgrees: a Sync in adjust mode that holds its correctionField, one in replace mode that is a byte short, and
one with one-step sync off; the capture condition. -/
theorem test_wit_OneStepSyncAgrees_modes :
    (ncrOssEn 0x0900000C#32 = true ∧ ncrOssCorr 0x0900000C#32 = true ∧ 42 + 16 ≤ sync4.length)
      ∧ ptpMessage (parseFrame 0x000188A8#32 85 (sync4.take 85)) (sync4.take 85) none = some ⟨42, 0, .ipv4 34⟩
      ∧ (sync4.take 85).length < 42 + 44 ∧ ncrOssEn 0x0000000C#32 = false
      ∧ (devAfter (runInput (.txDone .pmac0 0 (done (.ok 0))) (syncing 0x0900000C#32))).isSome = true
      ∧ ncrLbLocal (syncFlight 0x0900000C#32).conf.ncr = false
      ∧ txDrawsInSet (done (.ok 0)) (syncing 0x0900000C#32) .pmac0 (syncFlight 0x0900000C#32) 90 = true := by
  refine ⟨by decide, by decide, by decide, by decide, by decide +kernel, by decide, by decide⟩

/-- ChecksumsVerify: a frame whose checksums are filled in, and one that is left. -/
theorem test_wit_ChecksumsVerify :
    (checksumOffload 0x000188A8#32 sync4).2 = 0 ∧ (checksumOffload 0x000188A8#32 frameA).2 = 3
      ∧ (parseFrame 0x000188A8#32 sync4.length sync4).net = .ipv4 34 := by
  decide

/-- pMAC0 verifying with RXEMAC, its eMAC as pMAC0 in `running`. -/
def emacReceives : State :=
  { running with
    emac0 := running.pmac0, pmac0 := { running.pmac0 with ncr := 0 }
    mmsl0 := { Mmsl.reset with control := 0x00000A0C#32 } }

/-- RxFrameRouted: an express frame offered and routed to the eMAC; a preemptable one offered to a device whose RE is 0,
whole and with a reassembly error; one not offered, since no express frame comes in fragments. -/
theorem test_wit_RxFrameRouted :
    (emacReceives.mmsl .mac0).control.getLsbD 3 = true ∧ (emacReceives.mmsl .mac0).control.getLsbD 2 = true
      ∧ rxTarget emacReceives .mac0 .express = .emac0 ∧ rxTarget emacReceives .mac0 .preemptable = .pmac0
      ∧ arrivalOffered ⟨frameA, .express, 1, false⟩ (emacReceives.mmsl .mac0) = true
      ∧ arrivalOffered ⟨frameA, .preemptable, 2, false⟩ (emacReceives.mmsl .mac0) = true
      ∧ arrivalOffered ⟨frameA, .preemptable, 2, true⟩ (emacReceives.mmsl .mac0) = true
      ∧ arrivalOffered ⟨frameA, .express, 2, false⟩ (emacReceives.mmsl .mac0) = false
      ∧ ncrLbLocal (emacReceives.dev .emac0).ncr = false ∧ ncrLbLocal (emacReceives.dev .pmac0).ncr = false
      ∧ ncrRe (emacReceives.dev .emac0).ncr = true ∧ ncrRe (emacReceives.dev .pmac0).ncr = false
      ∧ noLoop.route = none := by
  decide

/-- RxDiscards, an overrun: an express and a preemptable arrival. -/
theorem test_wit_RxDiscards_overrun :
    rxTarget running .mac0 .express = .pmac0 ∧ arrivalOffered ⟨frameA, .express, 1, false⟩ (running.mmsl .mac0) = true
      ∧ arrivalOffered ⟨frameA, .preemptable, 2, false⟩ ((syncing 0x0100000C#32).mmsl .mac0) = true
      ∧ ncrLbLocal (running.dev .pmac0).ncr = false ∧ ncrRe (running.dev .pmac0).ncr = true
      ∧ rxDrawsInSet { noLoop with overrun := true } (running.cfg.nQueues .pmac0) = true := by
  decide

/-- A clean frame: F_A on a device that takes broadcasts. -/
theorem test_cleanFrame : CleanFrame (running.dev .pmac0) noLoop frameA := by
  constructor <;> decide +kernel

/-- Where a frame goes does not depend on memory. -/
theorem rxReaches_mem {s : State} {d : Dev} {f : List Byte} {dr : RxDraws} {t : Fin 4} (h : RxReaches s d f dr t)
    (m : Memory) : RxReaches { s with mem := m } d f dr t :=
  ⟨h.enabled, h.noOverrun, h.clean, h.routed⟩

/-- A frame that reaches queue 0. -/
theorem test_rxReaches : RxReaches running .pmac0 frameA noLoop 0 :=
  ⟨by decide, rfl, test_cleanFrame, by decide⟩

/-- RxDiscards: a short frame; one longer than the maximum; a bad FCS; a length field that disagrees; an untagged frame
with DNVLAN; a frame no filter accepts. The counters of the first four are those of 43_classifier R408. -/
theorem test_rx_discards :
    let ends (ncfgr jml : Word) (f : List Byte) : Option (List Word × Word) :=
      (devAfter (rxDevice .pmac0 f noLoop (onP0 (fun x => { x with ncfgr := ncfgr, jml := jml }) running))).map fun x =>
        ([.undersizeRx, .oversizeRx, .jabbersRx, .fcsErrorsRx, .lengthErrorsRx].map fun c => x.stats[statIndex c],
          (x.queue 0).isr)
    ends 0x00080000#32 10240#32 (withFcs (frameA.take 59)) = some ([1, 0, 0, 0, 0], 0x88#32)
      ∧ ends 0x00080008#32 64#32 (withFcs (frameA.take 60 ++ [0])) = some ([0, 1, 0, 0, 0], 0x88#32)
      ∧ ends 0x00080000#32 10240#32 (frameA.take 63 ++ [0]) = some ([0, 0, 0, 1, 0], 0x88#32)
      ∧ ends 0x00090000#32 10240#32 (withFcs (frameA.take 12 ++ [0, 10] ++ List.replicate 47 0))
        = some ([0, 0, 0, 0, 1], 0x88#32)
      ∧ ends 0x00080004#32 10240#32 frameA = some ([0, 0, 0, 0, 0], 0x88#32)
      ∧ ends 0x00080020#32 10240#32 frameA = some ([0, 0, 0, 0, 0], 0x88#32) := by
  decide +kernel

/-- RxDiscards: a frame that passes the checks and is not accepted, and one that a screener drops. -/
theorem test_wit_RxDiscards :
    accepted { running.pmac0 with ncfgr := 0x00080020#32 } frameA = false
      ∧ targetQueue 4 none (screen Config.defaultParams { running.pmac0 with
        t2 := .ofFn fun k => if k = 1 then 0x80001000#32 else 0, ethtype := .ofFn fun k => if k = 0 then 0x0806#32 else 0 }
        [] (parseFrame 0x000188A8#32 60 frameA) frameA) = none := by
  decide

/-- RxResourceErrorDrops: a software-owned descriptor on queue 0. -/
theorem test_wit_RxResourceErrorDrops :
    RxReaches { running with mem := Memory.write32 [] 0x3000#32 1#32 } .pmac0 frameA noLoop 0
      ∧ NoBusErr noLoop.errs running.cfg ∧ 1 ≤ rxBufBytes (running.dev .pmac0) 0
      ∧ rxOwn (Memory.read32 (Memory.write32 [] 0x3000#32 1#32) 0x3000#32) = true
      ∧ RxChain (Memory.write32 [] 0x3000#32 1#32) 0x3000#32 0x3000#32 8 0x3000#32 [] 0x3000#32
      ∧ 0 * rxBufBytes (running.dev .pmac0) 0 < ncfgrRbof (running.dev .pmac0).ncfgr + frameA.length
      ∧ BuffersOff 64 [] [0x3000#32] :=
  ⟨rxReaches_mem test_rxReaches _, ⟨rfl, rfl⟩, by decide, by decide, rfl, by decide, by simp [BuffersOff]⟩

/-- `running` with a Type-2 filter that routes ethertype 0x0806 to queue 2, which is disabled. -/
def routing : State :=
  onP0 (fun x => { x with
    t2 := .ofFn fun k => if k = 0 then 0x00001002#32 else 0
    ethtype := .ofFn fun k => if k = 0 then 0x00000806#32 else 0 }) running

/-- RxResourceErrorDrops: a disabled queue that a filter routes a clean frame to. -/
theorem test_wit_RxResourceErrorDrops_disabled :
    CleanFrame (routing.dev .pmac0) noLoop frameA ∧ ncrRe (routing.dev .pmac0).ncr = true
      ∧ targetQueue (routing.cfg.nQueues .pmac0) noLoop.route (screen routing.cfg (routing.dev .pmac0) []
        (parseFrame 0x000188A8#32 60 frameA) frameA) = some 2
      ∧ ((routing.dev .pmac0).queue 2).rxQdis = true := by
  refine ⟨by constructor <;> decide +kernel, by decide, by decide, by decide⟩

/-- RxStoresOneBuffer. -/
theorem test_wit_RxStoresOneBuffer :
    NoBusErr noLoop.errs toReceive.cfg ∧ ncrRe (toReceive.dev .pmac0).ncr = true
      ∧ targetQueue (toReceive.cfg.nQueues .pmac0) noLoop.route (screen toReceive.cfg (toReceive.dev .pmac0) []
        (parseFrame 0x000188A8#32 60 frameA) frameA) = some 0
      ∧ Memory.read32 toReceive.mem 0x3000#32 = 0x00004002#32 ∧ rxOwn 0x00004002#32 = false
      ∧ 1 ≤ rxBufBytes (toReceive.dev .pmac0) 0
      ∧ ncfgrRbof (toReceive.dev .pmac0).ncfgr + frameA.length ≤ rxBufBytes (toReceive.dev .pmac0) 0
      ∧ (rxAddr 0x00004002#32).toNat + 0 + frameA.length < 2 ^ 32
      ∧ nextDesc 0x3000#32 (rxWrap 0x00004002#32) (stride (dmacfgRxext (toReceive.dev .pmac0).dmacfg)) 0x3000#32
        = some 0x3000#32
      ∧ stampStored true 0x30#32 none = true ∧ (0x3000#32).toNat + 12 < 2 ^ 32 :=
  ⟨⟨rfl, rfl⟩, by decide, by decide, by decide, by decide, by decide, by decide, by decide, by decide, by decide,
    by decide⟩

/-- A device with receive buffers of 64 bytes, an offset of 1, and its ring at `a`; every received frame is stamped, in
extended descriptors where `ext` is set. -/
def smallBuffers (a : Word) (ext : Bool) : State :=
  onP0 (fun x => { x with
    ncfgr := 0x00084000#32, dmacfg := if ext then 0x10010004#32 else 0x00010004#32, rxBdControl := 0x30#32
    queues := #v[{ x.queue 0 with rxBase := a, rxCur := a }, x.queue 1, x.queue 2, x.queue 3] }) running

/-- Two receive descriptors at 0x3000, with buffers at 0x4000 and 0x4040. -/
def twoBuffers : Memory := Memory.write32 (Memory.write32 [] 0x3000#32 0x4000#32) 0x3008#32 0x4042#32

/-- RxStoresSeveralBuffers: a frame of 64 bytes that passes one buffer by a byte. -/
theorem test_wit_RxStoresSeveralBuffers :
    CleanFrame ((smallBuffers 0x3000#32 false).dev .pmac0) noLoop frameA
      ∧ targetQueue 4 none (screen running.cfg ((smallBuffers 0x3000#32 false).dev .pmac0) []
        (parseFrame 0x000188A8#32 60 frameA) frameA) = some 0
      ∧ RxChain twoBuffers 0x3000#32 0x3000#32 8 0x3000#32 [(0x3000#32, 0x4000#32), (0x3008#32, 0x4042#32)] 0x3000#32
      ∧ (0 + 1) * rxBufBytes ((smallBuffers 0x3000#32 false).dev .pmac0) 0
        < ncfgrRbof ((smallBuffers 0x3000#32 false).dev .pmac0).ncfgr + frameA.length
      ∧ ncfgrRbof ((smallBuffers 0x3000#32 false).dev .pmac0).ncfgr + frameA.length
        ≤ (0 + 2) * rxBufBytes ((smallBuffers 0x3000#32 false).dev .pmac0) 0 := by
  refine ⟨by constructor <;> decide +kernel, by decide, ?_, by decide, by decide⟩
  exact ⟨rfl, by decide, by decide, 0x3008#32, by decide, fun _ => by decide,
    rfl, by decide, by decide, 0x3000#32, by decide, by simp, rfl⟩

/-- A frame of 64 bytes reaches queue 0 of a device with buffers of 64 bytes and an offset of 1. -/
theorem test_rxReaches_small : RxReaches (smallBuffers 0x3000#32 false) .pmac0 frameA noLoop 0 :=
  ⟨by decide, rfl, by constructor <;> decide +kernel, by decide⟩

/-- One receive descriptor at 0x3000, with its buffer at 0x4000 and WRAP. -/
theorem test_oneBuffer : RxChain rxMem 0x3000#32 0x3000#32 8 0x3000#32 [(0x3000#32, 0x4002#32)] 0x3000#32 :=
  ⟨rfl, by decide, by decide, 0x3000#32, by decide, by simp, rfl⟩

/-- RxResourceErrorDrops: a frame that one buffer does not hold, on a ring that comes round to it. -/
theorem test_wit_RxResourceErrorDrops_ring :
    (let d : List (Word × Word) := [(0x3000#32, 0x4002#32)]; d ≠ [] ∧ d.length * 64 < 1 + frameA.length)
      ∧ rxBufBytes ((smallBuffers 0x3000#32 false).dev .pmac0) 0 = 64
      ∧ ncfgrRbof ((smallBuffers 0x3000#32 false).dev .pmac0).ncfgr = 1
      ∧ (rxAddr 0x4002#32).toNat + 64 < 2 ^ 32
      ∧ BuffersOff 64 [(0x3000#32, 0x4002#32)] [0x3000#32, 0x3000#32] := by
  refine ⟨by decide, by decide, by decide, by decide, by simp [BuffersOff, inWord, rxAddr]⟩

/-- RxBusErrorDrops: on that device with two buffers, the first error in the second descriptor's read, the last byte of
the frame, and the ownership write of the first descriptor (42_rx_ring R372). -/
theorem test_wit_RxBusErrorDrops :
    let at_ (k : Nat) : Option (Word × Word × Word) :=
      (devAfter (rxDevice .pmac0 frameA { noLoop with errs := [k + 1, k] }
        { smallBuffers 0x3000#32 false with mem := twoBuffers })).map
          fun x => (x.rsr, (x.queue 0).isr, (x.queue 0).rxCur)
    (1 + (1 * 64 - 1) = 64 ∧ at_ 64 = some (0xB#32, 0x888#32, 0x3000#32))
      ∧ (63 < frameA.length ∧ 63 + 1 + (1 + 63) / 64 = 65 ∧ at_ 65 = some (0xB#32, 0x888#32, 0x3000#32))
      ∧ (1 + 1 + frameA.length + 2 = 68 ∧ at_ 68 = some (0xB#32, 0x888#32, 0x3000#32)
        ∧ at_ 69 = some (0xB#32, 0x888#32, 0x3000#32)) := by
  decide +kernel

/-- RxWritesOnlyItsRing: a frame that its descriptors hold, and one whose ring ends; a byte beside the buffer. -/
theorem test_wit_RxWritesOnlyItsRing :
    (devAfter (rxDevice .pmac0 frameA noLoop toReceive)).isSome = true
      ∧ ncfgrRbof (toReceive.dev .pmac0).ncfgr + frameA.length ≤ 1 * rxBufBytes (toReceive.dev .pmac0) 0
      ∧ (devAfter (rxDevice .pmac0 frameA noLoop { smallBuffers 0x3000#32 false with mem := rxMem })).isSome = true
      ∧ (rxAddr 0x4002#32).toNat + rxBufBytes (toReceive.dev .pmac0) 0 ≤ 0x4600
      ∧ (¬ inWord 0x3000#32 0x4600 ∧ ¬ inWord (0x3000#32 + 4) 0x4600) := by
  refine ⟨by decide +kernel, by decide, by decide +kernel, by decide, ?_⟩
  unfold inWord; decide

/-- RxStoresSeveralBuffers: the buffers lie off the descriptors' first words. -/
theorem test_wit_RxStoresSeveralBuffers_apart :
    ∀ r ∈ [((0x3000#32 : Word), (0x4000#32 : Word)), (0x3008#32, 0x4042#32)],
      ∀ u ∈ [((0x3000#32 : Word), (0x4000#32 : Word)), (0x3008#32, 0x4042#32)], ∀ b, inWord u.1 b →
        b < (rxAddr r.2).toNat ∨ (rxAddr r.2).toNat + 64 ≤ b := by
  simp [inWord, rxAddr]

/-- A frame whose timestamp words pass the end of memory is a fault, unless a bus error on the first descriptor's status
word drops it before (42_rx_ring R366, R372). -/
theorem test_stamp_overflow :
    let s : State := { smallBuffers 0xFFFFFFE8#32 true with
      mem := Memory.write32 (Memory.write32 [] 0xFFFFFFE8#32 0x4000#32) 0xFFFFFFF8#32 0x4042#32 }
    faultOf (rxDevice .pmac0 frameA noLoop s) = some .addressOverflow
      ∧ (devAfter (rxDevice .pmac0 frameA { noLoop with errs := [66] } s)).map
          (fun x => (x.rsr, (x.queue 0).isr, (x.queue 0).rxCur)) = some (0xB#32, 0x888#32, 0xFFFFFFE8#32) := by
  decide +kernel

/-- A transmit descriptor of 8 bytes at `a`, the queue's pointer on it. -/
def fetchAt (a w0 w1 : Word) : State :=
  { onP0 (fun x => x.modQueue 0 fun y => { y with txBase := a, txCur := a }) running with
    mem := Memory.write32 (Memory.write32 [] a w0) (a + 4) w1 }

/-- AddressOverflows: a buffer that ends at the last byte of memory is a fault, one that ends before it is fetched; and the
last descriptor of memory without WRAP (20_memory R108, 41_tx_ring R302). -/
theorem test_wit_AddressOverflows_fetch :
    faultOf (runInput (.txFetch .pmac0 0 []) (fetchAt 0x1000#32 0xFFFFFFF8#32 0x40008008#32)) = some .addressOverflow
      ∧ (devAfter (runInput (.txFetch .pmac0 0 []) (fetchAt 0x1000#32 0xFFFFFFF7#32 0x40008008#32))).isSome = true
      ∧ faultOf (runInput (.txFetch .pmac0 0 []) (fetchAt 0xFFFFFFF8#32 0x2000#32 0x00008008#32)) = some .addressOverflow
      ∧ NoBusErr [] running.cfg
      ∧ txFetchEnabled running.cfg .pmac0 0 ((fetchAt 0xFFFFFFF8#32 0x2000#32 0x00008008#32).dev .pmac0) = true := by
  refine ⟨by decide, by decide, by decide, ⟨rfl, rfl⟩, by decide⟩

/-- `syncing` with its frame's first descriptor at `a`. -/
def stampAt (a : Word) : State :=
  onP0 (fun x => x.modQueue 0 fun y =>
    { y with inflight := some { syncFlight 0x0000000C#32 with descs := [(a, 0x40008010#32)] } }) (syncing 0x0000000C#32)

/-- AddressOverflows: a transmitted frame's timestamp that passes the end of memory is a fault; one that ends at the last
byte of memory is stored (log 31). -/
theorem test_wit_AddressOverflows_stamp :
    faultOf (runInput (.txDone .pmac0 0 (done (.ok 0))) (stampAt 0xFFFFFFF8#32)) = some .addressOverflow
      ∧ (match runInput (.txDone .pmac0 0 (done (.ok 0))) (stampAt 0xFFFFFFF0#32) with
        | .next t => (Memory.read32 t.mem 0xFFFFFFF8#32, Memory.read32 t.mem 0xFFFFFFFC#32)
        | _ => (0, 0)) = (0x000001F4#32, 0x00000009#32) := by
  decide +kernel

/-- `running` whose queue 0 has receive buffers of no bytes. -/
def noBuffers : State := { onP0 (fun x => { x with dmacfg := 0x00000004#32 }) running with mem := rxMem }

/-- One descriptor at 0x3000, whose 64 bytes reach the end of memory, and the last descriptor of memory, without WRAP. -/
def rxAtEnd : State := { smallBuffers 0x3000#32 false with mem := Memory.write32 [] 0x3000#32 0xFFFFFFC2#32 }
def rxNoWrap : State := { smallBuffers 0xFFFFFFF8#32 false with mem := Memory.write32 [] 0xFFFFFFF8#32 0x4000#32 }

/-- AddressOverflows: a received frame on each of them (20_memory R108; 42_rx_ring R352, R361). -/
theorem test_wit_AddressOverflows_rx :
    faultOf (rxDevice .pmac0 frameA noLoop noBuffers) = some .rxBufferSizeZero
      ∧ faultOf (rxDevice .pmac0 frameA noLoop rxAtEnd) = some .addressOverflow
      ∧ faultOf (rxDevice .pmac0 frameA noLoop rxNoWrap) = some .addressOverflow := by
  decide +kernel

/-- AddressOverflows: its premises for a received frame: the first descriptor of a frame, and a timestamp at the last. -/
theorem test_wit_AddressOverflows_rx_premises :
    RxReaches rxAtEnd .pmac0 frameA noLoop 0 ∧ rxBufBytes (noBuffers.dev .pmac0) 0 = 0
      ∧ rxBufBytes (rxAtEnd.dev .pmac0) 0 = 64 ∧ NoBusErr noLoop.errs rxAtEnd.cfg
      ∧ RxChain rxAtEnd.mem 0x3000#32 0x3000#32 8 0x3000#32 [] 0x3000#32
      ∧ 0 * 64 < ncfgrRbof (rxAtEnd.dev .pmac0).ncfgr + frameA.length ∧ rxOwn 0xFFFFFFC2#32 = false
      ∧ 2 ^ 32 ≤ (rxAddr 0xFFFFFFC2#32).toNat + min 64 (1 + frameA.length - 0 * 64)
      ∧ BuffersOff 64 [] [0x3000#32]
      ∧ RxChain (Memory.write32 [] 0xFFFFFFF8#32 0x4002#32) 0xFFFFFFF8#32 0xFFFFFFF8#32 16 0xFFFFFFF8#32
        ([] ++ [(0xFFFFFFF8#32, 0x4002#32)]) 0xFFFFFFF8#32
      ∧ 2 ^ 32 ≤ (0xFFFFFFF8#32).toNat + 12
      ∧ BuffersOff 0x600 [(0xFFFFFFF8#32, 0x4002#32)] [0xFFFFFFF8#32] := by
  refine ⟨⟨by decide, rfl, by constructor <;> decide +kernel, by decide⟩, by decide, by decide, ⟨rfl, rfl⟩, rfl, by decide,
    by decide, by decide, by simp [BuffersOff], ?_, by decide, by simp [BuffersOff, inWord, rxAddr]⟩
  exact ⟨rfl, by decide, by decide, 0xFFFFFFF8#32, by decide, by simp, rfl⟩

/-- ChecksumsVerify: codes 5, 6 and 7, of the frame above as a fragment, with protocol 1, and cut short by a byte. -/
theorem test_checksum_codes :
    (checksumOffload 0x000188A8#32 (patch sync4 20 [0x20])).2 = 5 ∧ (checksumOffload 0x000188A8#32 (patch sync4 23 [1])).2 = 6
      ∧ (checksumOffload 0x000188A8#32 (sync4.take 85)).2 = 7 := by
  decide

/-- AddressRecognition: acceptance, as the example of 43_classifier R412, by CAF, and by the hash at bit 58 (R410, R411). -/
theorem test_accepted :
    let group : List Byte := [0x01, 0x80, 0xC2, 0x00, 0x00, 0x0E] ++ List.replicate 58 0
    accepted Device.reset frameA = true ∧ accepted Device.reset group = false
      ∧ accepted { Device.reset with ncfgr := 0x20#32 } frameA = false
      ∧ accepted { Device.reset with ncfgr := 0x10#32 } group = true
      ∧ hashHit { Device.reset with ncfgr := 0x40#32, hrt := 0x04000000#32 } group = true
      ∧ hashHit { Device.reset with ncfgr := 0x80#32, hrt := 0x04000000#32 } group = false := by
  decide

/-- AddressRecognition: a filter that matches, and one that only its mask lets match. -/
theorem test_wit_AddressRecognition :
    12 ≤ frameA.length
      ∧ saMatch { Device.reset with sab := #v[0xFFFFFFFF#32, 0, 0, 0], sat := #v[0x0000FFFF#32, 0, 0, 0] } frameA 0 = true
      ∧ saMatch { Device.reset with sab := #v[0, 0, 0, 0x12A30401#32], sat := #v[0, 0, 0, 0x01015634#32] } frameA 3
        = true := by
  decide

/-- A device whose last Type-1 filter matches every IPv4 frame of traffic class 0, and one with a Type-2 filter. -/
def screening : Device :=
  { Device.reset with
    t1 := .ofFn fun k => if k = 3 then 0x10000002#32 else 0
    t2 := .ofFn fun k => if k = 3 then 0x00001002#32 else 0
    ethtype := .ofFn fun k => if k = 0 then 0x00000806#32 else 0 }

/-- ScreenersInOrder: the last Type-1 filter, the last Type-2 filter, and none. -/
theorem test_wit_ScreenersInOrder :
    (t1Active screening.t1[3] = true ∧ t1Match screening.t1[3] (parseFrame 0x000188A8#32 86 sync4) sync4 = true)
      ∧ (∀ k : Fin 16, k < 3 → t1Active screening.t1[k] = false)
      ∧ t1Match screening.t1[3] (parseFrame 0x000188A8#32 60 frameA) frameA = false
      ∧ (t2Active screening.t2[3] = true
        ∧ t2Match screening 4 12 [] 3 screening.t2[3] (parseFrame 0x000188A8#32 60 frameA) frameA = true)
      ∧ (∀ k : Fin 16, k < 3 → t2Active screening.t2[k] = false)
      ∧ screen Config.defaultParams Device.reset [] (parseFrame 0x000188A8#32 60 frameA) frameA = .route 0 := by
  decide

/-- ScreenerMatches, as the examples of 43_classifier R430, R432 and R433, on a frame to UDP port 319 and on an ARP
frame. -/
theorem test_screeners :
    let udp := parseFrame 0x000188A8#32 86 sync4
    let arp := parseFrame 0x000188A8#32 60 frameA
    t1Match 0x2013F001#32 udp sync4 = true ∧ t1Match 0x20140001#32 udp sync4 = false
      ∧ compareTest 0x013FFFFF#32 0x00000102#32 udp sync4 = true ∧ compareTest 0x0140FFFF#32 0x00000102#32 udp sync4 = false
      ∧ compareTest 0x0140FFFF#32 0x00000102#32 arp frameA = false
      ∧ t2Match screening 4 12 [] 0 0x00001002#32 arp frameA = true
      ∧ t2Match screening 4 12 [] 0 0x00001002#32 udp sync4 = false := by
  decide

/-- VerifySteps: each clause, with the attempts at their limit, and what each step that is not enabled finds. -/
theorem test_wit_VerifySteps :
    (((verifying 2 false).mmsl .mac0).vstat = .verifying ∧ ((verifying 2 false).mmsl .mac0).waiting = false
        ∧ ((verifying 2 false).mmsl .mac0).vcount < (verifying 2 false).cfg.verifyLimit)
      ∧ ((verifying 2 true).mmsl .mac0).vcount ≠ (verifying 2 true).cfg.verifyLimit
      ∧ (((verifying 3 true).mmsl .mac0).waiting = true
        ∧ ((verifying 3 true).mmsl .mac0).vcount = (verifying 3 true).cfg.verifyLimit)
      ∧ (verifying 3 false).cfg.verifyLimit ≤ ((verifying 3 false).mmsl .mac0).vcount
      ∧ (State.reset.mmsl .mac0).waiting = false ∧ (State.reset.mmsl .mac0).respondOwed = 0
      ∧ (State.reset.mmsl .mac0).vstat ≠ .verifying ∧ mmPen ((verifying 3 true).mmsl .mac0).control = true
      ∧ mmPen (State.reset.mmsl .mac0).control = false
      ∧ 0 < (({ State.reset with mmsl0 := { Mmsl.reset with respondOwed := 1 } } : State).mmsl .mac0).respondOwed := by
  decide

/-- MmslInterruptStatus: a step that changes the verify state, and a frame counted as a reassembly error. -/
theorem test_wit_MmslInterruptStatus :
    (∃ t, runInput (.mmTimeout .mac0) (verifying 3 true) = .next t
        ∧ (t.mmsl .mac0).vstat ≠ ((verifying 3 true).mmsl .mac0).vstat)
      ∧ arrivalOffered ⟨frameA, .preemptable, 2, true⟩ ((verifying 1 true).mmsl .mac0) = true
      ∧ ncrLbLocal ((verifying 1 true).dev .pmac0).ncr = false
      ∧ rxDrawsInSet noLoop ((verifying 1 true).cfg.nQueues .pmac0) = true :=
  ⟨⟨_, rfl, by decide⟩, by decide, by decide, by decide⟩

/-- MmslCounters: a frame reassembled from two fragments. -/
theorem test_wit_MmslCounters :
    (∃ t, runInput (.rxFrame .mac0 ⟨frameA, .preemptable, 2, false⟩ noLoop) (verifying 1 true) = .next t
        ∧ ((t.mmsl .mac0).fragRx, (t.mmsl .mac0).assOk) = (1#32, 1#32))
      ∧ arrivalOffered ⟨frameA, .preemptable, 2, false⟩ ((verifying 1 true).mmsl .mac0) = true :=
  ⟨⟨_, rfl, by decide⟩, by decide⟩

/-- PtpEventsRecorded: a frame that passes the checks, and one that is dropped by an overrun. -/
theorem test_wit_PtpEventsRecorded :
    (devAfter (rxDevice .pmac0 frameA noLoop running)).isSome = true
      ∧ (devAfter (rxDevice .pmac0 frameA { noLoop with overrun := true } running)).isSome = true := by
  decide +kernel

/-- A frame with the given bytes from its ethertype on, 40 bytes more and no FCS. -/
def framed (l : List Byte) : List Byte := frameA.take 12 ++ l ++ List.replicate 40 0

/-- An IPv6 header that carries UDP, to the address `dst`, and the start of that UDP header, to `port`. -/
def udp6 (dst : List Byte) (port : Byte) : List Byte :=
  [0x86, 0xDD, 0x6A, 0x50, 0, 0, 0, 42, 17, 1] ++ List.replicate 16 0 ++ dst ++ [1, 0x3F, 1, port, 0, 42, 0, 0, 0x12]

/-- FrameRecognition, the frames of 44_tsu R471-R475 and 43_classifier R400, R414: PTP over Ethernet behind no tag and behind
two; over IPv4 to a group and to a unicast address; over IPv6; and frames that are not PTP: a message that starts behind the
end, another port, a global address, a unicast address that is not the device's. The type-ID register is the lowest. -/
theorem test_wit_FrameRecognition :
    let msg (vlan : Word) (m : Nat) (unicast : Option Word) (f : List Byte) : Option (Nat × Nat) :=
      (ptpMessage (parseFrame vlan m f) f unicast).map fun e => (e.start, e.kind)
    let tagged := framed [0x88, 0xA8, 0xA0, 5, 0x81, 0, 0x10, 6, 0x88, 0xF7, 0xAB]
    let all : List Byte := 0xFF :: 0x0E :: .replicate 12 0 ++ [1, 0x81]
    let uni := patch sync4 30 [192, 168, 0, 1]
    55 ≤ (framed [0x88, 0xF7, 0x12]).length ∧ (msg 0x000188A8#32 55 none (framed [0x88, 0xF7, 0x12]) = some (14, 2)
        ∧ msg 0x000188A8#32 14 none (framed [0x88, 0xF7]) = none)
      ∧ (msg 0x000288A8#32 63 none tagged = some (22, 11) ∧ msg 0x000188A8#32 63 none tagged = none
        ∧ (parseFrame 0x000288A8#32 63 tagged).tags = 2 ∧ (parseFrame 0x000288A8#32 21 tagged).tags = 1
        ∧ (parseFrame 0x000288A8#32 63 tagged).pcp = 5 ∧ (parseFrame 0x000288A8#32 63 tagged).vid = 5)
      ∧ (msg 0 86 none sync4 = some (42, 0) ∧ msg 0 86 none uni = none ∧ msg 0 86 (some 0xC0A80001#32) uni = some (42, 0)
        ∧ msg 0 86 (some 0xC0A80002#32) uni = none)
      ∧ (msg 0 103 none (framed (udp6 all 0x40)) = some (62, 2) ∧ msg 0 103 none (framed (udp6 all 0x41)) = none
        ∧ msg 0 103 none (framed (udp6 (0x20 :: all.drop 1) 0x40)) = none
        ∧ msg 0 103 none (framed (udp6 (0xFF :: 2 :: .replicate 13 0 ++ [0x6B]) 0x3F)) = some (62, 2))
      ∧ (parseFrame 0 103 (framed (udp6 all 0x40))).ds (framed (udp6 all 0x40)) = some 0xA5
      ∧ tidmHit { Device.reset with tidm := #v[0x000088F7#32, 0x800088F7#32, 0, 0x800088F7#32] }
        (parseFrame 0 55 (framed [0x88, 0xF7, 0x12])) = some 1 := by
  decide

/-- MemoryWords: a byte just outside the word. -/
theorem test_wit_MemoryWords : ¬ inWord 0xFFFFFFFE#32 2 ∧ ¬ inWord 0xFFFFFFFE#32 0xFFFFFFFD := by
  unfold inWord; decide

/-- `running` with queue 1 enabled and never configured: its rings lie at 0. -/
def secondQueue : State := onP0 (fun x => x.modQueue 1 fun y => { y with txQdis := false, rxQdis := false }) running

/-- HostAccesses: stores to a hardware-owned transmit descriptor and to its buffer, to a hardware-owned receive buffer, and
to a slot of a second queue. -/
theorem test_wit_HostAccesses :
    (0x1007#32).toNat + [(1 : Byte)].length ≤ 2 ^ 32 ∧ TouchesOwned toSend 0x1007 1 ∧ TouchesOwned toSend 0x200F 1
      ∧ TouchesOwned toReceive 0x45FF 1 ∧ TouchesOwned secondQueue 0x17 1 ∧ (0xFFFFFFFC#32).toNat + 4 ≤ 2 ^ 32 := by
  refine ⟨by decide, ⟨.pmac0, 0, 0, by decide, .inl ⟨rfl, rfl, by decide, by simp, by decide, .inl (by decide)⟩⟩,
    ⟨.pmac0, 0, 0, by decide, .inl ⟨rfl, rfl, by decide, by simp, by decide, .inr (by decide)⟩⟩,
    ⟨.pmac0, 0, 0, by decide, .inr ⟨rfl, rfl, by decide, by simp, by decide, .inr (by decide)⟩⟩,
    ⟨.pmac0, 1, 2, by decide, .inl ⟨rfl, rfl, by decide, by decide, by decide, .inl (by decide)⟩⟩, by decide⟩

/-- HostAccesses: a store to the last byte of memory after reset. -/
theorem test_wit_HostAccesses_free : ¬ TouchesOwned State.reset 0xFFFFFFFF 1 ∧ State.reset.PointersAligned := by
  refine ⟨?_, by intro d q; cases d <;> fin_cases q <;> constructor <;> decide⟩
  rintro ⟨d, q, i, -, ⟨h, -⟩ | ⟨h, -⟩⟩ <;> cases d <;> exact absurd h (by decide)

/-- Rings of one slot each, software-owned, the transmit ring at 0x1000 below the receive ring at 0x3000, after the boot
order of 70_reset R704: queues 1 to 3 are unused. -/
def booted (w1 w0 : Word) : State :=
  { running with mem := Memory.write32 (Memory.write32 [] 0x1004#32 w1) 0x3000#32 w0 }

/-- A store to a hardware-owned slot is a fault, in the rings of the enabled queues only (70_reset R706; log 32). -/
theorem test_host_store :
    faultOf (runInput (.hostStore 0x1007#32 [1]) toSend) = some .hostTouchedHardwareOwned
      ∧ faultOf (runInput (.hostStore 0x17#32 [1]) secondQueue) = some .hostTouchedHardwareOwned
      ∧ (devAfter (runInput (.hostStore 0x17#32 [1]) toReceive)).isSome = true
      ∧ (devAfter (runInput (.hostStore 0x17#32 [1]) State.reset)).isSome = true := by
  decide

/-- The stores of `submit` and of `supply` (47_driver_contract R624, R629) pass with RE and TE at 1, the last of each being
the handoff; and so does one store of 8 bytes that hands a receive slot over (log 33). A store after the handoff is a
fault. -/
theorem test_submit_supply :
    let passes (a : Word) (v : Word) (s : State) := (devAfter (runInput (.hostStore a (wordBytes v)) s)).isSome
    passes 0x1000#32 0x2000#32 (booted 0xC0000000#32 3#32) = true
      ∧ passes 0x1004#32 0x40008040#32 (booted 0xC0000000#32 3#32) = true
      ∧ passes 0x3004#32 0#32 (booted 0xC0000000#32 3#32) = true
      ∧ passes 0x3000#32 0x4002#32 (booted 0xC0000000#32 3#32) = true
      ∧ (devAfter (runInput (.hostStore 0x3000#32 (wordBytes 0x4002#32 ++ wordBytes 0)) (booted 0xC0000000#32 3#32))).isSome
        = true
      ∧ faultOf (runInput (.hostStore 0x3004#32 [0]) (booted 0xC0000000#32 0x4002#32)) = some .hostTouchedHardwareOwned := by
  decide

/-- A range of length 0 that the platform does not back answers no access with BusErr; one of a byte answers the word that
holds it (20_memory R122). -/
theorem test_empty_hole :
    Oracle.busErr ⟨[], [(0x1002, 0)]⟩ 0 0x1000 4 = false ∧ Oracle.busErr ⟨[], [(0x1002, 1)]⟩ 0 0x1000 4 = true := by
  decide

/-- StatisticsCounters: a counter that always may be reported, one in half duplex, and one no line event counts. -/
theorem test_wit_StatisticsCounters :
    Stat.pauseTx ∈ [Stat.pauseTx, .pauseRx, .symbolErrorsRx, .alignmentErrorsRx, .autoFlushedRx]
      ∧ (Stat.deferredTx ∈ [Stat.deferredTx, .crsErrors] ∧ ncfgrFd (State.reset.dev .pmac0).ncfgr = false)
      ∧ Stat.framesTx ∉ [Stat.pauseTx, .pauseRx, .symbolErrorsRx, .alignmentErrorsRx, .autoFlushedRx] := by
  decide

/-- A write access placed as the next input is what the machine runs (log 2). -/
theorem test_fetch :
    (devAfter (step (State.reset.withFetchWord 64 0x1234567800008080))).map (·.hrb) = some 0x12345678#32 := by
  decide

end Sys2Proof.Tests
end

section
/-! PROOF. Descriptor pointers stay 8-byte aligned (10_state R65, R67, R72): one case for each update of
Laws/Steps.lean that reaches a queue. The rule for NCR writes serves every property of one queue. -/

namespace Sys2Proof.Machine

/-! ### What an NCR write does to one queue -/

@[simp] theorem Device.queue_txDisable (x : Device) (q : Fin 4) :
    x.txDisable.queue q = { x.queue q with txActive := false, inflight := none, txCur := (x.queue q).txBase } :=
  Device.queue_mapQueues x (fun y => { y with txActive := false, inflight := none, txCur := y.txBase }) q

@[simp] theorem Device.queue_rxDisable (x : Device) (q : Fin 4) :
    x.rxDisable.queue q = { x.queue q with rxCur := (x.queue q).rxBase } := Device.queue_mapQueues x _ q

@[simp] theorem Device.queue_txStart (x : Device) (q : Fin 4) :
    x.txStart.queue q = { x.queue q with txActive := (x.queue q).txActive || !(x.queue q).txQdis } :=
  Device.queue_mapQueues x (fun y => { y with txActive := y.txActive || !y.txQdis }) q

@[simp] theorem Device.queue_txHalt (x : Device) (q : Fin 4) :
    x.txHalt.queue q = if x.idleInflight then { x.queue q with txActive := false } else x.queue q := by
  unfold Device.txHalt
  split
  · exact Device.queue_mapQueues x _ q
  · rfl

@[simp] theorem Device.queue_txHaltCheck (x : Device) (q : Fin 4) :
    x.txHaltCheck.queue q = if x.haltReq then { x.queue q with txActive := false } else x.queue q := by
  unfold Device.txHaltCheck
  split
  · exact Device.queue_mapQueues x (fun y => { y with txActive := false }) q
  · rfl

theorem Device.queue_ite_induct {P : Queue → Prop} (c : Bool) {x y : Device} {q : Fin 4} (hx : P (x.queue q))
    (hy : P (x.queue q) → P (y.queue q)) : P ((if c then y else x).queue q) := by
  split
  · exact hy hx
  · exact hx

/-- A property of a queue survives an NCR write if it survives the return of either pointer to its base and any value of
the active flag (40_registers R191). -/
theorem Device.queue_writeNcr_induct (P : Queue → Prop) (x : Device) (v : Word) (q : Fin 4) (h : P (x.queue q))
    (txReturn : ∀ y, P y → P { y with txActive := false, inflight := none, txCur := y.txBase })
    (rxReturn : ∀ y, P y → P { y with rxCur := y.rxBase })
    (active : ∀ y b, P y → P { y with txActive := b }) : P ((x.writeNcr v).queue q) := by
  have halt (x : Device) (hx : P (x.queue q)) : P (x.txHalt.queue q) := by
    rw [Device.queue_txHalt]
    split
    · exact active _ _ hx
    · exact hx
  have disabled := Device.queue_ite_induct (ncrTe x.ncr && !ncrTe v) h fun k =>
    (Device.queue_txDisable x q).symm ▸ txReturn _ k
  have returned := Device.queue_ite_induct (ncrRe x.ncr && !ncrRe v) disabled fun k =>
    (Device.queue_rxDisable _ q).symm ▸ rxReturn _ k
  have cleared := Device.queue_ite_induct (ncrClrStat v) returned fun k => (Device.queue_clearStats _ q).symm ▸ k
  have started := Device.queue_ite_induct (ncrTStart v && ncrTe v) cleared fun k =>
    (Device.queue_txStart _ q).symm ▸ active _ _ k
  exact Device.queue_ite_induct (ncrTHalt v) started (halt _)

/-! ### Aligned queues -/

theorem queueBase_aligned (v : Word) : queueBase v &&& 7 = 0 := by rw [queueBase, BitVec.and_assoc]; simp

theorem Queue.Aligned.setTxPtr {y : Queue} (h : y.Aligned) (v : Word) : (y.setTxPtr v).Aligned :=
  ⟨queueBase_aligned v, queueBase_aligned v, h.rxBase, h.rxCur⟩

theorem Queue.Aligned.setRxPtr {y : Queue} (h : y.Aligned) (v : Word) : (y.setRxPtr v).Aligned :=
  ⟨h.txBase, h.txCur, queueBase_aligned v, queueBase_aligned v⟩

theorem Queue.Aligned.reset (q : Fin 4) : (Queue.reset q).Aligned := by
  constructor <;> decide +revert

/-- Every descriptor pointer of the device is 8-byte aligned. -/
def Device.PointersAligned (x : Device) : Prop := ∀ q, (x.queue q).Aligned

namespace Device.PointersAligned

variable {x : Device}

theorem modQueue (h : x.PointersAligned) (q : Fin 4) (f : Queue → Queue)
    (hf : (x.queue q).Aligned → (f (x.queue q)).Aligned) : (x.modQueue q f).PointersAligned := by
  intro p
  rw [Device.queue_modQueue]
  split
  · exact hf (h q)
  · exact h p

theorem reset : Device.reset.PointersAligned
  | 0 => Queue.Aligned.reset 0
  | 1 => Queue.Aligned.reset 1
  | 2 => Queue.Aligned.reset 2
  | 3 => Queue.Aligned.reset 3

theorem writeNcr (h : x.PointersAligned) (v : Word) : (x.writeNcr v).PointersAligned := fun q =>
  Device.queue_writeNcr_induct Queue.Aligned x v q (h q) (fun _ a => ⟨a.txBase, a.txBase, a.rxBase, a.rxCur⟩)
    (fun _ a => ⟨a.txBase, a.txCur, a.rxBase, a.rxBase⟩) fun _ _ a => ⟨a.txBase, a.txCur, a.rxBase, a.rxCur⟩

theorem irq (h : x.PointersAligned) (q : Fin 4) (bits : Word) : (x.irq q bits).PointersAligned :=
  h.modQueue q _ fun a => ⟨a.txBase, a.txCur, a.rxBase, a.rxCur⟩

theorem irqDevice (h : x.PointersAligned) (bits : Word) : (x.irqDevice bits).PointersAligned := h.irq 0 bits

theorem tsuTick (h : x.PointersAligned) (rollover : Nat) : (x.tsuTick rollover).PointersAligned := by
  unfold Device.tsuTick
  simp only
  split
  · exact irqDevice h _
  · exact h

theorem ptpRxEvent (h : x.PointersAligned) (kind : Nat) : (x.ptpRxEvent kind).PointersAligned :=
  match kind with
  | 0 | 1 | 2 | 3 => irqDevice h _
  | _ + 4 => h

theorem ptpTxEvent (h : x.PointersAligned) (kind : Nat) : (x.ptpTxEvent kind).PointersAligned :=
  match kind with
  | 0 | 1 | 2 | 3 => irqDevice h _
  | _ + 4 => h

theorem txHaltCheck (h : x.PointersAligned) : x.txHaltCheck.PointersAligned := by
  intro q
  rw [Device.queue_txHaltCheck]
  split
  · exact ⟨(h q).txBase, (h q).txCur, (h q).rxBase, (h q).rxCur⟩
  · exact h q

end Device.PointersAligned

/-- Every update of a device keeps its pointers aligned; those not named leave every queue as it was. -/
theorem Device.Update.pointersAligned {c : Params} {d : Dev} {x y : Device} (u : Device.Update c d x y)
    (h : x.PointersAligned) : y.PointersAligned := by
  induction u with
  | trans _ _ first second => exact second (first h)
  | reset => exact .reset
  | ncr x v => exact h.writeNcr v
  | txPtr x q v => exact h.modQueue q _ (·.setTxPtr v)
  | rxPtr x q v => exact h.modQueue q _ (·.setRxPtr v)
  | isrRead x q | ier x q | idr x q | txInactive x q =>
    exact h.modQueue q _ fun a => ⟨a.txBase, a.txCur, a.rxBase, a.rxCur⟩
  | irq x q bits => exact h.irq q bits
  | tick x => exact h.tsuTick _
  | ptpRx x k => exact h.ptpRxEvent k
  | ptpTx x k => exact h.ptpTxEvent k
  | txFetch x q cur fr _ hcur =>
    exact h.modQueue q _ fun a => ⟨a.txBase, hcur a.txBase a.txCur, a.rxBase, a.rxCur⟩
  | txFinish x q => exact (h.modQueue q _ fun a => ⟨a.txBase, a.txCur, a.rxBase, a.rxCur⟩).txHaltCheck
  | rxCur x q cur hcur => exact h.modQueue q _ fun a => ⟨a.txBase, a.txCur, a.rxBase, hcur a.rxBase a.rxCur⟩
  | _ => exact h

/-- Settles O11: each device goes through updates that keep its pointers aligned. -/
theorem stepKeepsPointersAligned : Obligations.StepKeepsPointersAligned := by
  intro s t h hs d
  obtain ⟨-, change⟩ := step_change h
  exact (change.dev d).pointersAligned (hs d)

end Sys2Proof.Machine
end

section
/-! PROOF. The frame of a register access (10_state R31) and its effect on the interrupt status registers (40_registers
R180, R198; log 30): one rule for each form of register, then one case for each form. -/

namespace Sys2Proof.Machine

/-! ### What an access leaves -/

/-- What an access `i` leaves unchanged, and what it does to every interrupt status register. -/
structure AccessFrame (i : Instr) (s t : State) : Prop where
  dev     : ∀ d, d ≠ i.dev → t.dev d = s.dev d
  mmsl    : ∀ m, m ≠ macOf i.dev → t.mmsl m = s.mmsl m
  mem     : t.mem = s.mem
  lineOut : t.lineOut = s.lineOut
  inputs  : t.inputs = s.inputs
  cfg     : t.cfg = s.cfg
  isr     : ∀ d q, ((t.dev d).queue q).isr = ((s.dev d).queue q).isr
    ∨ (((t.dev d).queue q).isr = 0 ∧ i = isrAccess q d .read)

namespace AccessFrame

variable {i : Instr}

theorem refl (s : State) : AccessFrame i s s :=
  ⟨fun _ _ => rfl, fun _ _ => rfl, rfl, rfl, rfl, rfl, fun _ _ => .inl rfl⟩

theorem rdata {s t : State} (h : AccessFrame i s t) (v : Word) : AccessFrame i s { t with rdata := v } where
  dev d hd := (State.dev_rdata t v d).trans (h.dev d hd)
  mmsl m hm := (State.mmsl_rdata t v m).trans (h.mmsl m hm)
  mem := h.mem
  lineOut := h.lineOut
  inputs := h.inputs
  cfg := h.cfg
  isr d q := by rw [State.dev_rdata]; exact h.isr d q

theorem draws {s t : State} (h : AccessFrame i s t) (n : Nat) : AccessFrame i s { t with draws := n } where
  dev d hd := (State.dev_draws t n d).trans (h.dev d hd)
  mmsl m hm := (State.mmsl_draws t n m).trans (h.mmsl m hm)
  mem := h.mem
  lineOut := h.lineOut
  inputs := h.inputs
  cfg := h.cfg
  isr d q := by rw [State.dev_draws]; exact h.isr d q

/-- A change of the access's own device. -/
theorem modDev (s : State) (f : Device → Device)
    (h : ∀ q, ((f (s.dev i.dev)).queue q).isr = ((s.dev i.dev).queue q).isr
      ∨ (((f (s.dev i.dev)).queue q).isr = 0 ∧ i = isrAccess q i.dev .read)) :
    AccessFrame i s (s.modDev i.dev f) where
  dev d hd := State.dev_modDev_of_ne s _ d f hd
  mmsl m _ := State.modDev_mmsl s _ f m
  mem := State.modDev_mem s _ f
  lineOut := State.modDev_lineOut s _ f
  inputs := State.modDev_inputs s _ f
  cfg := State.modDev_cfg s _ f
  isr d q := by
    rw [State.dev_modDev]
    split
    · subst d; exact h q
    · exact .inl rfl

theorem ofQueues (s : State) (f : Device → Device) (h : (f (s.dev i.dev)).queues = (s.dev i.dev).queues) :
    AccessFrame i s (s.modDev i.dev f) :=
  .modDev s f fun q => .inl (by rw [Device.queue, h, ← Device.queue])

theorem modQueue (s : State) (q : Fin 4) (f : Queue → Queue) (h : ∀ y, (f y).isr = y.isr) :
    AccessFrame i s (s.modDev i.dev fun x => x.modQueue q f) := by
  refine .modDev s _ fun p => .inl ?_
  rw [Device.queue_modQueue]
  split
  · subst p; exact h _
  · rfl

/-- A change of the MMSL of the access's physical MAC. -/
theorem modMmsl (s : State) (f : Mmsl → Mmsl) : AccessFrame i s (modMmsl s (macOf i.dev) f) where
  dev d _ := modMmsl_dev s _ f d
  mmsl m hm := by rw [mmsl_modMmsl, if_neg hm]
  mem := modMmsl_mem s _ f
  lineOut := modMmsl_lineOut s _ f
  inputs := modMmsl_inputs s _ f
  cfg := modMmsl_cfg s _ f
  isr d q := .inl (by rw [modMmsl_dev])

end AccessFrame

theorem Device.queue_writeNcr_isr (x : Device) (v : Word) (q : Fin 4) :
    ((x.writeNcr v).queue q).isr = (x.queue q).isr :=
  Device.queue_writeNcr_induct (fun y => y.isr = (x.queue q).isr) x v q rfl (fun _ h => h) (fun _ h => h)
    fun _ _ h => h

/-! ### The forms of register -/

/-- The next state of a result, if it has one, keeps the frame of `i`. -/
def Framed (i : Instr) (s : State) (r : Result) : Prop := ∀ t, r = .next t → AccessFrame i s t

section Forms

variable {i : Instr} {s : State}

theorem Framed.next {t : State} (h : AccessFrame i s t) : Framed i s (.next t) := by
  intro u e; cases e; exact h

theorem Framed.fault (r : Fault) : Framed i s (.fault r) := by intro t e; cases e

theorem Framed.refused (r : Refusal) : Framed i s (.refused r) := by intro t e; cases e

theorem Framed.ite {p : Prop} [Decidable p] {a b : Result} (h : Framed i s a) (k : Framed i s b) :
    Framed i s (if p then a else b) := by
  split
  · exact h
  · exact k

theorem readAs_framed {t : State} (v : Word) (h : AccessFrame i s t) : Framed i s (readAs v t) := .next (h.rdata v)

theorem whenPresent_framed {p : Bool} {off : Nat} {a : Result} (op : MmioOp) (h : Framed i s a) :
    Framed i s (whenPresent p off op s a) := by
  refine .ite h ?_
  cases op with
  | read => exact .next (((AccessFrame.refl s).rdata (Config.unmappedRead s.draws)).draws (s.draws + 1))
  | write v => exact .fault _

theorem rwReg_framed {off : Nat} {rsvd value : Word} {store : Word → Result} (op : MmioOp)
    (h : ∀ v, Framed i s (store v)) : Framed i s (rwReg off rsvd value store op s) := by
  cases op with
  | read => exact readAs_framed value (.refl s)
  | write v => exact .ite (.fault _) (h v)

theorem roReg_framed {value : Word} (op : MmioOp) : Framed i s (roReg value op s) := by
  cases op with
  | read => exact readAs_framed value (.refl s)
  | write v => exact .next (.refl s)

theorem corReg_framed {value : Word} {cleared : State} (op : MmioOp) (h : op = .read → AccessFrame i s cleared) :
    Framed i s (corReg value cleared op s) := by
  cases op with
  | read => exact readAs_framed value (h rfl)
  | write v => exact .next (.refl s)

theorem w1cReg_framed {value : Word} {clear : Word → State} (op : MmioOp) (h : ∀ v, AccessFrame i s (clear v)) :
    Framed i s (w1cReg value clear op s) := by
  cases op with
  | read => exact readAs_framed value (.refl s)
  | write v => exact .next (h v)

theorem cmdReg_framed {act : Word → State} (op : MmioOp) (h : ∀ v, AccessFrame i s (act v)) :
    Framed i s (cmdReg act op s) := by
  cases op with
  | read => exact readAs_framed 0 (.refl s)
  | write v => exact .next (h v)

theorem queuePtrReg_framed {q : Fin 4} {off : Nat} {enabled : Bool} {value : Word} {store : Word → Queue → Queue}
    (op : MmioOp) (h : ∀ v y, (store v y).isr = y.isr) :
    Framed i s (queuePtrReg i.dev q off enabled value store op s) := by
  refine whenPresent_framed op ?_
  cases op with
  | read => exact readAs_framed value (.refl s)
  | write v => exact .ite (.fault _) (.ite (.refused _) (.ite (.fault _) (.next (.modQueue s q _ (h v)))))

/-- The one form that reaches an interrupt status bit: the read of the register itself. -/
theorem isrReg_framed (q : Fin 4) {off : Nat} (op : MmioOp) (h : op = .read → i = isrAccess q i.dev .read) :
    Framed i s (isrReg q off i.dev op s) := by
  refine whenPresent_framed op (corReg_framed op fun hop => .modDev s _ fun p => ?_)
  rw [Device.queue_modQueue]
  split
  · subst p; exact .inr ⟨rfl, h hop⟩
  · exact .inl rfl

end Forms

/-! ### Every access -/

theorem exec_framed (i : Instr) (s : State) : Framed i s (exec i s) := by
  cases i with
  | ncrRead d => exact readAs_framed _ (.refl s)
  | ncrWrite d v =>
    exact .ite (.fault _) (.next (.modDev s (·.writeNcr v) fun q => .inl (Device.queue_writeNcr_isr _ v q)))
  | moduleId d op | ptpTxSec d op | ptpTxNsec d op | ptpRxSec d op | ptpRxNsec d op | peerTxSec d op
  | peerTxNsec d op | peerRxSec d op | peerRxNsec d op =>
    exact roReg_framed op
  | hrb d op | hrt d op | rxPtpUnicast d op | txPtpUnicast d op | txBdControl d op | rxBdControl d op
  | tsuSubInc d op | tsuSecHi d op | tsuSecLo d op | tsuInc d op | sa1b d op | sa1t d op | sa2b d op
  | sa2t d op | sa3b d op | sa3t d op | sa4b d op | sa4t d op | tidm1 d op | tidm2 d op | tidm3 d op
  | tidm4 d op =>
    exact rwReg_framed op fun _ => .next (.ofQueues s _ rfl)
  | dmacfg d op =>
    exact rwReg_framed op fun _ => .ite (.refused _) (.ite (.fault _) (.next (.ofQueues s _ rfl)))
  | jml d op => exact rwReg_framed op fun _ => .ite (.next (.ofQueues s _ rfl)) (.fault _)
  | ncfgr d op => exact rwReg_framed op fun _ => .ite (.refused _) (.next (.ofQueues s _ rfl))
  | stackedVlan d op | tsuNsec d op =>
    exact rwReg_framed op fun _ => .ite (.fault _) (.next (.ofQueues s _ rfl))
  | tsr d op | rsr d op =>
    exact w1cReg_framed op fun _ => .ofQueues s _ rfl
  | octTxLo d op | octTxHi d op | octRxLo d op | octRxHi d op | framesTx d op | bcastTx d op | mcastTx d op
  | pauseTx d op | frames64Tx d op | frames65to127Tx d op | frames128to255Tx d op | frames256to511Tx d op
  | frames512to1023Tx d op | frames1024to1518Tx d op | frames1519Tx d op | txUnderruns d op
  | singleCollisions d op | multipleCollisions d op | excessiveCollisions d op | lateCollisions d op
  | deferredTx d op | crsErrors d op | framesRx d op | bcastRx d op | mcastRx d op | pauseRx d op
  | frames64Rx d op | frames65to127Rx d op | frames128to255Rx d op | frames256to511Rx d op
  | frames512to1023Rx d op | frames1024to1518Rx d op | frames1519Rx d op | undersizeRx d op | oversizeRx d op
  | jabbersRx d op | fcsErrorsRx d op | lengthErrorsRx d op | symbolErrorsRx d op | alignmentErrorsRx d op
  | resourceErrorsRx d op | overrunsRx d op | ipChecksumErrorsRx d op | tcpChecksumErrorsRx d op
  | udpChecksumErrorsRx d op | autoFlushedRx d op =>
    exact corReg_framed op fun _ => .ofQueues s _ rfl
  | rxbufSizeQ1 d op | rxbufSizeQ2 d op | rxbufSizeQ3 d op | t1_0 d op | t1_1 d op | t1_2 d op | t1_3 d op
  | t2_0 d op | t2_1 d op | t2_2 d op | t2_3 d op | ethtype_0 d op | ethtype_1 d op | ethtype_2 d op
  | ethtype_3 d op | cmpW0_0 d op | cmpW1_0 d op | cmpW0_1 d op | cmpW1_1 d op | cmpW0_2 d op | cmpW1_2 d op
  | cmpW0_3 d op | cmpW1_3 d op | cmpW0_4 d op | cmpW1_4 d op | cmpW0_5 d op | cmpW1_5 d op | cmpW0_6 d op
  | cmpW1_6 d op | cmpW0_7 d op | cmpW1_7 d op | cmpW0_8 d op | cmpW1_8 d op | cmpW0_9 d op | cmpW1_9 d op
  | cmpW0_10 d op | cmpW1_10 d op | cmpW0_11 d op | cmpW1_11 d op =>
    exact whenPresent_framed op (rwReg_framed op fun _ => .next (.ofQueues s _ rfl))
  | rxqbqp d op | rxqbqpQ1 d op | rxqbqpQ2 d op | rxqbqpQ3 d op | txqbqp d op | txqbqpQ1 d op | txqbqpQ2 d op
  | txqbqpQ3 d op =>
    exact queuePtrReg_framed op fun _ _ => rfl
  | isr d op => exact isrReg_framed 0 op fun h => h ▸ rfl
  | isrQ1 d op => exact isrReg_framed 1 op fun h => h ▸ rfl
  | isrQ2 d op => exact isrReg_framed 2 op fun h => h ▸ rfl
  | isrQ3 d op => exact isrReg_framed 3 op fun h => h ▸ rfl
  | ier d op | ierQ1 d op | ierQ2 d op | ierQ3 d op | idr d op | idrQ1 d op | idrQ2 d op | idrQ3 d op =>
    exact whenPresent_framed op (cmdReg_framed op fun _ => .modQueue s _ _ fun _ => rfl)
  | imr d op | imrQ1 d op | imrQ2 d op | imrQ3 d op | mmslStatus d op | mmslIntMask d op =>
    exact whenPresent_framed op (roReg_framed op)
  | mmslAssErr d op | mmslAssOk d op | mmslFragRx d op | mmslFragTx d op | mmslIntStatus d op =>
    exact whenPresent_framed op (corReg_framed op fun _ => .modMmsl s _)
  | mmslIntEn d op | mmslIntDis d op =>
    exact whenPresent_framed op (cmdReg_framed op fun _ => .modMmsl s _)
  | mmslControl d op =>
    exact whenPresent_framed op (rwReg_framed op fun _ => .ite (.fault _) (.next (.modMmsl s _)))

/-- Settles O15: the frame of every access, taken apart. -/
theorem accessTouchesOneDevice : Obligations.AccessTouchesOneDevice := by
  intro i s t h
  obtain ⟨dev, mmsl, mem, lineOut, inputs, cfg, isr⟩ := exec_framed i s t h
  exact ⟨⟨dev, mmsl, mem, lineOut, inputs, cfg⟩, isr⟩

end Sys2Proof.Machine
end

section
/-! PROOF. System memory: every step keeps its canonical form (log 5), and its words are little-endian (20_memory R104). -/

namespace Sys2Proof.Machine

/-- Settles O9: whatever an agent writes, it writes by operations that keep the form. -/
theorem stepKeepsMemoryWf : Obligations.StepKeepsMemoryWf := by
  intro s t h wf
  obtain ⟨-, change⟩ := step_change h
  exact change.mem wf

/-- Two of the four byte addresses of a word are the same only at the same place, past the end of memory too. -/
theorem toNat_add_ne (a i j : Word) (h : i ≠ j) : (a + i).toNat ≠ (a + j).toNat := fun e =>
  h (by simpa using BitVec.eq_of_toNat_eq e)

/-- The bytes of a stored word, from the low address up. -/
theorem Memory.read_write32 (m : Memory) (a v : Word) :
    Memory.read (Memory.write32 m a v) a.toNat = v.extractLsb' 0 8
      ∧ Memory.read (Memory.write32 m a v) (a + 1).toNat = v.extractLsb' 8 8
      ∧ Memory.read (Memory.write32 m a v) (a + 2).toNat = v.extractLsb' 16 8
      ∧ Memory.read (Memory.write32 m a v) (a + 3).toNat = v.extractLsb' 24 8 := by
  have h01 := toNat_add_ne a 0 1 (by decide)
  have h02 := toNat_add_ne a 0 2 (by decide)
  have h03 := toNat_add_ne a 0 3 (by decide)
  have h12 := toNat_add_ne a 1 2 (by decide)
  have h13 := toNat_add_ne a 1 3 (by decide)
  have h23 := toNat_add_ne a 2 3 (by decide)
  rw [show a + 0 = a by simp] at h01 h02 h03
  simp only [Memory.write32, Memory.read_write, h01, h02, h03, h12, h13, h23, if_true, if_false, and_self]

/-- A word is its four bytes, the last the highest. -/
theorem append_extractLsb'_bytes (v : Word) :
    (v.extractLsb' 24 8 ++ v.extractLsb' 16 8 ++ v.extractLsb' 8 8 ++ v.extractLsb' 0 8 : BitVec 32) = v := by
  rw [BitVec.extractLsb'_append_extractLsb'_eq_extractLsb' (by rfl),
    BitVec.extractLsb'_append_extractLsb'_eq_extractLsb' (by rfl),
    BitVec.extractLsb'_append_extractLsb'_eq_extractLsb' (by rfl)]
  exact BitVec.extractLsb'_eq_self

theorem Memory.read32_write32 (m : Memory) (a v : Word) : Memory.read32 (Memory.write32 m a v) a = v := by
  obtain ⟨h0, h1, h2, h3⟩ := Memory.read_write32 m a v
  rw [Memory.read32, h0, h1, h2, h3, append_extractLsb'_bytes]

/-- Settles O59: the four bytes, the word they make, and the bytes outside it. -/
theorem memoryWords : Obligations.MemoryWords := by
  intro m a v
  obtain ⟨h0, h1, h2, h3⟩ := Memory.read_write32 m a v
  refine ⟨Memory.read32_write32 m a v, h0, h1, h2, h3, fun b hb => ?_⟩
  simp only [inWord, not_or] at hb
  obtain ⟨n0, n1, n2, n3⟩ := hb
  exact Memory.read_write32_of_ne m a v b n0 n1 n2 n3

end Sys2Proof.Machine
end

section
/-! PROOF. What an access to any register answers by the kind of the register (20_memory R102, R120; 40_registers R181,
R183) and where there is none (30_encoding R143): one rule for each form of register, then one case for each form. -/

namespace Sys2Proof.Machine

/-! ### Which registers exist -/

theorem rowOk_outside {first last stride off : Nat} (p : Nat → Bool) (h : off < first ∨ last ≤ off) :
    rowOk first last stride p off = true := by
  simp only [rowOk, Bool.or_eq_true, Bool.not_eq_true', Bool.and_eq_false_iff, decide_eq_false_iff_not]
  omega

theorem rowOk_inside {first last stride off : Nat} (p : Nat → Bool) (h : first ≤ off ∧ off < last) :
    rowOk first last stride p off = p ((off - first) / stride) := by
  simp [rowOk, h]

/-- The first offsets of the families of registers of queues 1 to 3: ISR_Q, TXQBQP_Q, RXQBQP_Q, RXBUF_SIZE_Q, IER_Q,
IDR_Q, IMR_Q (10_state R33). -/
def queueFamilies : List Nat := [0x400, 0x440, 0x480, 0x4A0, 0x600, 0x620, 0x640]

section Families

variable (c : Params) (d : Dev) {off : Nat}

theorem regExists_queue (first n : Nat) (hf : first ∈ queueFamilies) (hn : n < 3) (h : off = first + 4 * n) :
    regExists c d off = decide (n + 1 < c.nQueues d) := by
  have row : (off - first) / 4 = n := by omega
  simp only [queueFamilies, List.mem_cons, List.not_mem_nil, or_false] at hf
  obtain rfl | rfl | rfl | rfl | rfl | rfl | rfl := hf
  all_goals simp (disch := omega) only [regExists, rowOk_outside, rowOk_inside, row, Bool.and_true, Bool.true_and]

theorem regExists_t1 (n : Fin 16) (h : off = 0x500 + 4 * n.val) : regExists c d off = decide (n.val < c.nT1) := by
  have row : (off - 0x500) / 4 = n.val := by omega
  simp (disch := omega) only [regExists, rowOk_outside, rowOk_inside, row, Bool.and_true, Bool.true_and]

theorem regExists_t2 (n : Fin 16) (h : off = 0x540 + 4 * n.val) : regExists c d off = decide (n.val < c.nT2) := by
  have row : (off - 0x540) / 4 = n.val := by omega
  simp (disch := omega) only [regExists, rowOk_outside, rowOk_inside, row, Bool.and_true, Bool.true_and]

theorem regExists_ethtype (n : Fin 8) (h : off = 0x6E0 + 4 * n.val) : regExists c d off = decide (n.val < c.nEth) := by
  have row : (off - 0x6E0) / 4 = n.val := by omega
  simp (disch := omega) only [regExists, rowOk_outside, rowOk_inside, row, Bool.and_true, Bool.true_and]

theorem regExists_cmp (n : Fin 32) (h : off = 0x700 + 8 * n.val ∨ off = 0x704 + 8 * n.val) :
    regExists c d off = decide (n.val < c.nCmp) := by
  have row : (off - 0x700) / 8 = n.val := by omega
  simp (disch := omega) only [regExists, rowOk_outside, rowOk_inside, row, Bool.and_true, Bool.true_and]

end Families

/-- Every device of a legal configuration has a queue 0 (00_scope R8). -/
theorem nQueues_pos {c : Params} (h : c.ok = true) (d : Dev) : 0 < c.nQueues d := by
  simp only [Params.ok, Bool.and_eq_true, decide_eq_true_eq] at h
  cases d <;> simp only [Params.nQueues] <;> omega

/-! ### The forms of register -/

/-- What an access at `off` answers with, where `present` says whether there is a register: without one it is unmapped;
a read of one that is not COR changes nothing, and a write to one with only RO or COR fields is ignored. -/
structure Answers (present : Bool) (off : Nat) (op : MmioOp) (s : State) (r : Result) : Prop where
  absent : present = false → r = unmapped off op s
  read   : s.cfg.ok = true → present = true → op = .read → isCor off = false →
    ∃ v, r = .next { s with rdata := v }
  write  : s.cfg.ok = true → present = true → ∀ v, op = .write v → isReadOnly off = true → r = .next s

section Forms

variable {off : Nat} {op : MmioOp} {s : State}

/-- A register that a read leaves alone and a write may change. -/
theorem Answers.ofReadAs {r : Result} (value : Word) (h : op = .read → r = readAs value s)
    (w : isReadOnly off = false) : Answers true off op s r where
  absent k := by cases k
  read _ _ hop _ := ⟨value, h hop⟩
  write _ _ _ _ k := absurd (w.symm.trans k) Bool.false_ne_true

theorem rwReg_answers {o : Nat} {rsvd value : Word} {store : Word → Result} (w : isReadOnly off = false) :
    Answers true off op s (rwReg o rsvd value store op s) := .ofReadAs value (fun h => h ▸ rfl) w

theorem w1cReg_answers {value : Word} {clear : Word → State} (w : isReadOnly off = false) :
    Answers true off op s (w1cReg value clear op s) := .ofReadAs value (fun h => h ▸ rfl) w

theorem cmdReg_answers {act : Word → State} (w : isReadOnly off = false) :
    Answers true off op s (cmdReg act op s) := .ofReadAs 0 (fun h => h ▸ rfl) w

theorem roReg_answers {value : Word} : Answers true off op s (roReg value op s) where
  absent k := by cases k
  read _ _ hop _ := ⟨value, hop ▸ rfl⟩
  write _ _ v hop _ := hop ▸ rfl

theorem corReg_answers {value : Word} {cleared : State} (c : isCor off = true) :
    Answers true off op s (corReg value cleared op s) where
  absent k := by cases k
  read _ _ _ k := absurd (k.symm.trans c) Bool.false_ne_true
  write _ _ v hop _ := hop ▸ rfl

theorem whenPresent_answers {d : Dev} {p : Bool} {r : Result} (h : regExists s.cfg d off = p)
    (k : Answers true off op s r) : Answers (regExists s.cfg d off) off op s (whenPresent p off op s r) := by
  rw [h]
  cases p with
  | false => exact ⟨fun _ => rfl, fun _ e => (by cases e), fun _ e => (by cases e)⟩
  | true => exact k

/-- A register of queue `n + 1`, in its place of a family. -/
theorem whenQueue_answers {d : Dev} {n : Nat} {r : Result} (first : Nat) (hf : first ∈ queueFamilies) (hn : n < 3)
    (h : off = first + 4 * n) (k : Answers true off op s r) :
    Answers (regExists s.cfg d off) off op s (whenPresent (decide (n + 1 < s.cfg.nQueues d)) off op s r) :=
  whenPresent_answers (regExists_queue _ d first n hf hn h) k

/-- A register of queue 0 has no row of its own in the table of existence: it exists in every legal configuration. -/
theorem queueZero_answers {d : Dev} {q : Fin 4} {r : Result} (h : q = 0) (k : Answers true off op s r) :
    Answers true off op s (whenPresent (decide (q.val < s.cfg.nQueues d)) off op s r) where
  absent e := by cases e
  read ok e hop c := by
    subst h
    simpa [whenPresent, nQueues_pos ok d] using k.read ok e hop c
  write ok e v hop c := by
    subst h
    simpa [whenPresent, nQueues_pos ok d] using k.write ok e v hop c

/-- A queue pointer register, by the rule for the queue's registers. -/
theorem queuePtrReg_answers {present enabled : Bool} {d : Dev} {q : Fin 4} {value : Word} {store : Word → Queue → Queue}
    (h : ∀ r, Answers true off op s r →
      Answers present off op s (whenPresent (decide (q.val < s.cfg.nQueues d)) off op s r))
    (w : isReadOnly off = false) : Answers present off op s (queuePtrReg d q off enabled value store op s) :=
  h _ (.ofReadAs value (fun k => k ▸ rfl) w)

end Forms

/-! ### Every access -/

theorem exec_answers (i : Instr) (s : State) : Answers (i.wellFormed s.cfg) i.off i.op s (exec i s) := by
  cases i with
  | ncrRead d => exact .ofReadAs _ (fun _ => rfl) rfl
  | moduleId d op | ptpTxSec d op | ptpTxNsec d op | ptpRxSec d op | ptpRxNsec d op | peerTxSec d op
  | peerTxNsec d op | peerRxSec d op | peerRxNsec d op =>
    exact roReg_answers
  | ncrWrite d v => exact .ofReadAs 0 nofun rfl
  | hrb d op | hrt d op | rxPtpUnicast d op | txPtpUnicast d op | txBdControl d op | rxBdControl d op
  | tsuSubInc d op | tsuSecHi d op | tsuSecLo d op | tsuInc d op | sa1b d op | sa1t d op | sa2b d op
  | sa2t d op | sa3b d op | sa3t d op | sa4b d op | sa4t d op | tidm1 d op | tidm2 d op | tidm3 d op
  | tidm4 d op | dmacfg d op | jml d op | ncfgr d op | stackedVlan d op | tsuNsec d op =>
    exact rwReg_answers rfl
  | tsr d op | rsr d op =>
    exact w1cReg_answers rfl
  | octTxLo d op | octTxHi d op | octRxLo d op | octRxHi d op | framesTx d op | bcastTx d op | mcastTx d op
  | pauseTx d op | frames64Tx d op | frames65to127Tx d op | frames128to255Tx d op | frames256to511Tx d op
  | frames512to1023Tx d op | frames1024to1518Tx d op | frames1519Tx d op | txUnderruns d op
  | singleCollisions d op | multipleCollisions d op | excessiveCollisions d op | lateCollisions d op
  | deferredTx d op | crsErrors d op | framesRx d op | bcastRx d op | mcastRx d op | pauseRx d op
  | frames64Rx d op | frames65to127Rx d op | frames128to255Rx d op | frames256to511Rx d op
  | frames512to1023Rx d op | frames1024to1518Rx d op | frames1519Rx d op | undersizeRx d op | oversizeRx d op
  | jabbersRx d op | fcsErrorsRx d op | lengthErrorsRx d op | symbolErrorsRx d op | alignmentErrorsRx d op
  | resourceErrorsRx d op | overrunsRx d op | ipChecksumErrorsRx d op | tcpChecksumErrorsRx d op
  | udpChecksumErrorsRx d op | autoFlushedRx d op =>
    exact corReg_answers rfl
  | rxqbqp d op | txqbqp d op => exact queuePtrReg_answers (fun _ => queueZero_answers rfl) rfl
  | isr d op => exact queueZero_answers rfl (corReg_answers rfl)
  | ier d op | idr d op => exact queueZero_answers rfl (cmdReg_answers rfl)
  | imr d op => exact queueZero_answers rfl roReg_answers
  | isrQ1 d op | isrQ2 d op | isrQ3 d op => exact whenQueue_answers 0x400 (by decide) (by decide) rfl (corReg_answers rfl)
  | txqbqpQ1 d op | txqbqpQ2 d op | txqbqpQ3 d op =>
    exact queuePtrReg_answers (fun _ => whenQueue_answers 0x440 (by decide) (by decide) rfl) rfl
  | rxqbqpQ1 d op | rxqbqpQ2 d op | rxqbqpQ3 d op =>
    exact queuePtrReg_answers (fun _ => whenQueue_answers 0x480 (by decide) (by decide) rfl) rfl
  | rxbufSizeQ1 d op | rxbufSizeQ2 d op | rxbufSizeQ3 d op =>
    exact whenQueue_answers 0x4A0 (by decide) (by decide) rfl (rwReg_answers rfl)
  | ierQ1 d op | ierQ2 d op | ierQ3 d op => exact whenQueue_answers 0x600 (by decide) (by decide) rfl (cmdReg_answers rfl)
  | idrQ1 d op | idrQ2 d op | idrQ3 d op => exact whenQueue_answers 0x620 (by decide) (by decide) rfl (cmdReg_answers rfl)
  | imrQ1 d op | imrQ2 d op | imrQ3 d op => exact whenQueue_answers 0x640 (by decide) (by decide) rfl roReg_answers
  | t1_0 d op | t1_1 d op | t1_2 d op | t1_3 d op =>
    exact whenPresent_answers (regExists_t1 _ d _ rfl) (rwReg_answers rfl)
  | t2_0 d op | t2_1 d op | t2_2 d op | t2_3 d op =>
    exact whenPresent_answers (regExists_t2 _ d _ rfl) (rwReg_answers rfl)
  | ethtype_0 d op | ethtype_1 d op | ethtype_2 d op | ethtype_3 d op =>
    exact whenPresent_answers (regExists_ethtype _ d _ rfl) (rwReg_answers rfl)
  | cmpW0_0 d op | cmpW0_1 d op | cmpW0_2 d op | cmpW0_3 d op | cmpW0_4 d op | cmpW0_5 d op | cmpW0_6 d op
  | cmpW0_7 d op | cmpW0_8 d op | cmpW0_9 d op | cmpW0_10 d op | cmpW0_11 d op =>
    exact whenPresent_answers (regExists_cmp _ d _ (.inl rfl)) (rwReg_answers rfl)
  | cmpW1_0 d op | cmpW1_1 d op | cmpW1_2 d op | cmpW1_3 d op | cmpW1_4 d op | cmpW1_5 d op | cmpW1_6 d op
  | cmpW1_7 d op | cmpW1_8 d op | cmpW1_9 d op | cmpW1_10 d op | cmpW1_11 d op =>
    exact whenPresent_answers (regExists_cmp _ d _ (.inr rfl)) (rwReg_answers rfl)
  | mmslControl d op => exact whenPresent_answers rfl (rwReg_answers rfl)
  | mmslAssErr d op | mmslAssOk d op | mmslFragRx d op | mmslFragTx d op | mmslIntStatus d op =>
    exact whenPresent_answers rfl (corReg_answers rfl)
  | mmslIntEn d op | mmslIntDis d op => exact whenPresent_answers rfl (cmdReg_answers rfl)
  | mmslStatus d op | mmslIntMask d op => exact whenPresent_answers rfl roReg_answers

/-- Settles O16: what an access answers, by the kind of its register. -/
theorem accessKinds : Obligations.AccessKinds :=
  ⟨fun i s ok hop present cor => (exec_answers i s).read ok present hop cor,
    fun i v s ok hop present ro => (exec_answers i s).write ok present v hop ro⟩

end Sys2Proof.Machine
end

section
/-! PROOF. What a transaction or a bus access means (20_memory R100, R101; 30_encoding R143): the decoder reads the row of
its offset, a bus address the first window that holds it, and an offset without a register is unmapped. -/

namespace Sys2Proof.Machine

/-! ### Rows -/

/-- Each row makes accesses of its own offset, of any device and direction. -/
theorem rows_parts : rows.Forall fun r => ∀ d op, (r.2 d op).parts = ⟨r.1, d, op⟩ := by
  have ncr : ∀ d op, (ncrAccess d op).parts = ⟨0x000, d, op⟩ := by intro d op; cases op <;> rfl
  refine ⟨ncr, ?_⟩
  repeat refine ⟨fun _ _ => rfl, ?_⟩
  exact fun _ _ => rfl

theorem mem_of_lookupRow {off : Nat} {l : List Row} {mk : Dev → MmioOp → Instr} (h : lookupRow off l = some mk) :
    (off, mk) ∈ l := by
  induction l with
  | nil => cases h
  | cons r rest ih =>
    simp only [lookupRow] at h
    split at h
    · next hr => cases h; subst hr; exact List.mem_cons_self
    · exact List.mem_cons_of_mem _ (ih h)

theorem parts_of_lookupRow {off : Nat} {mk : Dev → MmioOp → Instr} (h : lookupRow off rows = some mk) (d : Dev)
    (op : MmioOp) : (mk d op).parts = ⟨off, d, op⟩ :=
  List.forall_iff_forall_mem.mp rows_parts _ (mem_of_lookupRow h) d op

/-- An access at the offset of an instruction, of its device and direction, is the instruction: the decoder is run on each
row. -/
theorem decodeAt_parts (i : Instr) : decodeAt i.dev i.off i.op = .ok i := by
  cases i <;> simp only [Instr.dev, Instr.off, Instr.op, Instr.parts] <;> rfl

/-! ### Offsets without a register -/

theorem extraOffset_iff (off : Nat) : extraOffset off = true ↔ off % 4 = 0 ∧
    ((0x510 ≤ off ∧ off < 0x540) ∨ (0x550 ≤ off ∧ off < 0x580) ∨ (0x6F0 ≤ off ∧ off < 0x700)
      ∨ (0x760 ≤ off ∧ off < 0x800)) := by
  simp only [extraOffset, Bool.and_eq_true, Bool.or_eq_true, Bool.not_eq_true', Bool.and_eq_false_iff, decide_eq_true_eq,
    decide_eq_false_iff_not]
  omega

theorem whenPresent_of_absent {p : Bool} {o off : Nat} {op : MmioOp} {s : State} {r : Result} (h : p = false)
    (ho : o = off) : whenPresent p o op s r = unmapped off op s := by
  subst h ho
  rfl

/-- An offset of no row is unmapped where the configuration gives it no register (30_encoding R143). -/
theorem accessUnlisted_absent {d : Dev} {off : Nat} (op : MmioOp) {s : State} (aligned : off % 4 = 0)
    (h : extraOffset off = true → regExists s.cfg d off = false) : accessUnlisted d off op s = unmapped off op s := by
  rw [extraOffset_iff] at h
  unfold accessUnlisted
  split
  · have row : off = 0x500 + 4 * (Fin.ofNat 16 ((off - 0x500) / 4)).val := by rw [Fin.val_ofNat]; omega
    exact whenPresent_of_absent ((regExists_t1 _ d _ row).symm.trans (h (by omega))) row.symm
  split
  · have row : off = 0x540 + 4 * (Fin.ofNat 16 ((off - 0x540) / 4)).val := by rw [Fin.val_ofNat]; omega
    exact whenPresent_of_absent ((regExists_t2 _ d _ row).symm.trans (h (by omega))) row.symm
  split
  · have row : off = 0x6E0 + 4 * (Fin.ofNat 8 ((off - 0x6E0) / 4)).val := by rw [Fin.val_ofNat]; omega
    exact whenPresent_of_absent ((regExists_ethtype _ d _ row).symm.trans (h (by omega))) row.symm
  split
  · split
    · have row : off = 0x700 + 8 * (Fin.ofNat 32 ((off - 0x700) / 8)).val := by rw [Fin.val_ofNat]; omega
      exact whenPresent_of_absent ((regExists_cmp _ d _ (.inl row)).symm.trans (h (by omega))) row.symm
    · have row : off = 0x704 + 8 * (Fin.ofNat 32 ((off - 0x704) / 8)).val := by rw [Fin.val_ofNat]; omega
      exact whenPresent_of_absent ((regExists_cmp _ d _ (.inr row)).symm.trans (h (by omega))) row.symm
  · rfl

/-- An access at an offset where the device has no register is unmapped (30_encoding R143). -/
theorem runDecoded_absent {d : Dev} {off : Nat} (op : MmioOp) {s : State} (aligned : off % 4 = 0)
    (h : hasRegister s.cfg d off = false) : runDecoded (decodeAt d off op) s = unmapped off op s := by
  simp only [decodeAt, aligned, ne_eq, not_true_eq_false, if_false]
  cases row : lookupRow off rows with
  | some mk =>
    have absent : regExists s.cfg d off = false := by simpa [hasRegister, row] using h
    have parts := parts_of_lookupRow row d op
    have answer := (exec_answers (mk d op) s).absent
    rw [Instr.wellFormed, Instr.dev, Instr.off, Instr.op, parts] at answer
    exact answer absent
  | none =>
    refine accessUnlisted_absent op aligned fun extra => ?_
    simpa [hasRegister, row, extra] using h

/-! ### Transactions and bus accesses -/

theorem runDecoded_misaligned {d : Dev} {off : Nat} {op : MmioOp} {s : State} (h : off % 4 ≠ 0) :
    runDecoded (decodeAt d off op) s = .refused .narrowOrMisalignedAccess := by
  rw [decodeAt, if_pos h]
  rfl

theorem runDecoded_parts (i : Instr) (s : State) : runDecoded (decodeAt i.dev i.off i.op) s = exec i s := by
  rw [decodeAt_parts]
  rfl

theorem runMmio_wide {t : BitVec 64} (s : State) (h : t.extractLsb' 18 14 ≠ 0#14) :
    runMmio t s = .refused .narrowOrMisalignedAccess := by
  rw [runMmio, decode, if_pos h]
  rfl

theorem runMmio_word {t : BitVec 64} (s : State) (h : t.extractLsb' 18 14 = 0#14) : runMmio t s =
    runDecoded (decodeAt (Dev.ofCode (t.extractLsb' 16 2)) ((keyOf t).extractLsb' 0 15).toNat (opOf t)) s := by
  rw [runMmio, decode, if_neg (not_not_intro h)]

theorem find?_cons_ite {α : Type} (p : α → Bool) (x : α) (l : List α) :
    (x :: l).find? p = if p x then some x else l.find? p := by
  cases h : p x <;> simp [h]

/-- The device that answers at a bus address: the first whose window holds it (20_memory R100; log 6). -/
theorem windowOf_eq_find (a : Word) : windowOf a = [Dev.pmac0, .emac0, .pmac1, .emac1].find? fun d =>
    decide ((Config.base d).toNat ≤ a.toNat ∧ a.toNat < (Config.base d).toNat + 0x1000) := by
  have window : (fun d => decide ((Config.base d).toNat ≤ a.toNat ∧ a.toNat < (Config.base d).toNat + 0x1000))
      = inWindow a := funext fun _ => Bool.decide_and _ _
  simp only [window, windowOf, find?_cons_ite, List.find?_nil]

theorem runBus_outside {a : Word} {n : Nat} {op : MmioOp} {s : State} (h : windowOf a = none) :
    runBus a n op s = .refused .noDeviceAtAddress := by
  rw [runBus, h]

theorem runBus_narrow {a : Word} {n : Nat} {op : MmioOp} {s : State} {d : Dev} (h : windowOf a = some d) (hn : n ≠ 4) :
    runBus a n op s = .refused .narrowOrMisalignedAccess := by
  rw [runBus, h]
  exact if_pos hn

theorem runBus_word {a : Word} {op : MmioOp} {s : State} {d : Dev} (h : windowOf a = some d) :
    runBus a 4 op s = runDecoded (decodeAt d (a.toNat - (Config.base d).toNat) op) s := by
  rw [runBus, h]
  exact if_neg (not_not_intro rfl)

/-- Settles O5: transactions, bus addresses, and offsets without a register. -/
theorem accessOutcomes : Obligations.AccessOutcomes := by
  refine ⟨fun t s => ⟨fun h => ?_, runMmio_word s⟩, fun a n op s => ?_, fun d off s aligned absent =>
    ⟨runDecoded_absent .read aligned absent, fun v => runDecoded_absent (.write v) aligned absent⟩⟩
  · by_cases wide : t.extractLsb' 18 14 = 0#14
    · have misaligned := h.resolve_left (not_not_intro wide)
      exact (runMmio_word s wide).trans (runDecoded_misaligned misaligned)
    · exact runMmio_wide s wide
  · simp only [← windowOf_eq_find]
    refine ⟨runBus_outside, fun d window => ⟨fun h => ?_, ?_⟩⟩
    · by_cases narrow : n = 4
      · subst narrow
        exact (runBus_word window).trans (runDecoded_misaligned (h.resolve_left (not_not_intro rfl)))
      · exact runBus_narrow window narrow
    · rintro rfl
      refine ⟨runBus_word window, ?_⟩
      rintro i rfl offset rfl
      exact (runBus_word window).trans (offset ▸ runDecoded_parts i s)

end Sys2Proof.Machine
end

section
/-! PROOF. Where an address of the transmit engine passes the end of memory (20_memory R108; 41_tx_ring R302, R310): a fetch
passes the descriptors of a chain one by one, and stops at the one behind them. -/

namespace Sys2Proof.Machine

/-! ### The oracle without a bus error -/

theorem NoBusErr.busErr {errs : List Nat} {c : Params} (h : NoBusErr errs c) (k a len : Nat) :
    Oracle.busErr ⟨errs, c.holes⟩ k a len = false := by
  obtain ⟨rfl, holes⟩ := h
  rw [holes]
  exact Oracle.busErr_nil k a len

theorem dmaRead32_eq {o : Oracle} (ok : ∀ k a len, o.busErr k a len = false) (m : Memory) (n : Nat) (a : Word) :
    dmaRead32 o m n a = some (Memory.read32 m a) := by
  simp [dmaRead32, ok]

/-! ### Successors -/

theorem nextDesc_eq_none {base a : Word} {wrap : Bool} {step : Nat} (hw : wrap = false) (h : 2 ^ 32 ≤ a.toNat + step) :
    nextDesc base wrap step a = none := by
  subst hw
  exact if_neg (Nat.not_lt.mpr h)

/-! ### The walk of a fetch -/

section Walk

variable {o : Oracle} {m : Memory} {base first : Word} {step : Nat}

/-- A walk along a chain starts at a hardware-owned descriptor if it ends at one. -/
theorem TxChain.head_unused {descs : List (Word × Word)} {a b : Word} (h : TxChain m base first step a descs b)
    (hb : txUsed (Memory.read32 m (b + 4)) = false) : txUsed (Memory.read32 m (a + 4)) = false := by
  cases descs with
  | nil => obtain rfl : a = b := h; exact hb
  | cons p rest =>
    obtain ⟨-, hw, unused, -⟩ := h
    exact hw ▸ unused

/-- One descriptor of a walk that goes on. -/
theorem txWalk_succ (ok : ∀ k a len, o.busErr k a len = false) {a b w1 : Word} (fuel n : Nat)
    (acc : List (Word × Word)) (data : List Byte) (fit : (Memory.read32 m a).toNat + txLen w1 < 2 ^ 32)
    (next : nextDesc base (txWrap w1) step a = some b) (last : txLast w1 = false) (round : b ≠ first)
    (unused : txUsed (Memory.read32 m (b + 4)) = false) :
    txWalk o m base first step (fuel + 1) n a w1 acc data false =
      txWalk o m base first step fuel (n + 1 + txLen w1 + 1) b (Memory.read32 m (b + 4)) (acc ++ [(a, w1)])
        (data ++ Memory.readBytes m (Memory.read32 m a).toNat (txLen w1)) false := by
  have fit' : ¬ 2 ^ 32 ≤ (Memory.read32 m a).toNat + txLen w1 := by omega
  simp only [txWalk, dmaRead32_eq ok, dmaReadBytes_eq o m _ _ _ ok, fit', next, last, round, unused, decide_false,
    Bool.and_false, Bool.false_eq_true, if_false, Option.getD_some, Option.isNone_some]

/-- A walk passes a chain of descriptors whose buffers fit, none of them the last of the frame. -/
theorem txWalk_chain (ok : ∀ k a len, o.busErr k a len = false) (fuel : Nat) (descs : List (Word × Word)) (n : Nat)
    (a b : Word) (acc : List (Word × Word)) (data : List Byte) (chain : TxChain m base first step a descs b)
    (last : ∀ p ∈ descs, txLast p.2 = false) (fit : TxBuffersFit m descs) (round : descs = [] ∨ b ≠ first)
    (unused : txUsed (Memory.read32 m (b + 4)) = false) :
    txWalk o m base first step (fuel + descs.length) n a (Memory.read32 m (a + 4)) acc data false =
      txWalk o m base first step fuel (n + (descs.map fun p => txLen p.2 + 2).sum) b (Memory.read32 m (b + 4))
        (acc ++ descs) (data ++ txBytes m descs) false := by
  induction descs generalizing n a acc data with
  | nil =>
    obtain rfl : a = b := chain
    simp [txBytes]
  | cons p rest ih =>
    obtain ⟨rfl, hw, -, c, next, more, chain'⟩ := chain
    have pass : c ≠ first := by
      cases rest with
      | nil => obtain rfl : c = b := chain'; simpa using round
      | cons q rest => exact (more (by simp)).2
    rw [← hw, List.length_cons, ← Nat.add_assoc,
      txWalk_succ ok _ n acc data (fit p (by simp)) next (last p (by simp)) pass (chain'.head_unused unused),
      ih _ c _ _ chain' (fun q hq => last q (by simp [hq])) (fun q hq => fit q (by simp [hq])) (round.imp (by simp) id)]
    have count : n + 1 + txLen p.2 + 1 + (rest.map fun p => txLen p.2 + 2).sum
        = n + ((p :: rest).map fun p => txLen p.2 + 2).sum := by
      simp only [List.map_cons, List.sum_cons]
      omega
    rw [count]
    simp [txBytes]

/-- A walk stops at a descriptor whose buffer, or whose successor, reaches the end of memory. -/
theorem txWalk_overflow (ok : ∀ k a len, o.busErr k a len = false) {a w1 : Word} (fuel n : Nat)
    (acc : List (Word × Word)) (data : List Byte) (h : 2 ^ 32 ≤ (Memory.read32 m a).toNat + txLen w1
      ∨ (txWrap w1 = false ∧ 2 ^ 32 ≤ a.toNat + step)) :
    txWalk o m base first step (fuel + 1) n a w1 acc data false = .fault .addressOverflow := by
  simp only [txWalk, dmaRead32_eq ok, Bool.not_false, Bool.true_and, decide_eq_true_eq]
  split
  · rfl
  · next fits =>
    obtain ⟨wrap, stop⟩ := h.resolve_left fits
    rw [nextDesc_eq_none wrap stop]

end Walk

/-- A fetch stops behind a chain of descriptors, at one that reaches the end of memory (R302, R310). -/
theorem runTxFetch_overflow {d : Dev} {q : Fin 4} {errs : List Nat} {s : State} {descs : List (Word × Word)} {a : Word}
    (noErr : NoBusErr errs s.cfg) (enabled : txFetchEnabled s.cfg d q (s.dev d) = true)
    (chain : TxChain s.mem ((s.dev d).queue q).txBase ((s.dev d).queue q).txCur (stride (dmacfgTxext (s.dev d).dmacfg))
      ((s.dev d).queue q).txCur descs a)
    (last : ∀ p ∈ descs, txLast p.2 = false) (fit : TxBuffersFit s.mem descs)
    (round : descs = [] ∨ a ≠ ((s.dev d).queue q).txCur) (short : descs.length < 2 ^ 29)
    (unused : txUsed (Memory.read32 s.mem (a + 4)) = false)
    (stop : 2 ^ 32 ≤ (Memory.read32 s.mem a).toNat + txLen (Memory.read32 s.mem (a + 4))
      ∨ (txWrap (Memory.read32 s.mem (a + 4)) = false ∧ 2 ^ 32 ≤ a.toNat + stride (dmacfgTxext (s.dev d).dmacfg))) :
    runTxFetch d q errs s = .fault .addressOverflow := by
  have ok := noErr.busErr
  obtain ⟨fuel, hfuel⟩ : ∃ fuel, txWalkFuel = fuel + 1 + descs.length :=
    ⟨2 ^ 29 - 1 - descs.length, by rw [txWalkFuel]; omega⟩
  have fetch : txFetchFrame ⟨errs, s.cfg.holes⟩ s.mem ((s.dev d).queue q).txBase ((s.dev d).queue q).txCur
      (stride (dmacfgTxext (s.dev d).dmacfg)) = .fault .addressOverflow := by
    simp only [txFetchFrame, dmaRead32_eq ok, chain.head_unused unused, Bool.false_eq_true, if_false]
    rw [hfuel, txWalk_chain ok _ descs 1 _ a [] [] chain last fit round unused]
    exact txWalk_overflow ok fuel _ _ _ stop
  simp only [runTxFetch, enabled, Bool.not_true, Bool.false_eq_true, if_false, fetch]

/-! ### Timestamps -/

/-- A timestamp is captured exactly where one is to be stored (44_tsu R477). -/
theorem captureStamp_isSome (t : Tsu) (extended : Bool) (control : Word) (g : Option PtpMsg) :
    (captureStamp t extended (tsMode control) g).isSome = stampStored extended control g := by
  have mode (k : Nat) (hk : k < 4) : decide (tsMode control = k) = (control.extractLsb' 4 2 == BitVec.ofNat 2 k) := by
    rw [Bool.eq_iff_iff, decide_eq_true_eq, beq_iff_eq, tsMode, field, ← BitVec.toNat_inj, BitVec.toNat_ofNat,
      Nat.mod_eq_of_lt hk]
  simp only [captureStamp, captureDecision, stampStored, mode 3 (by decide), mode 2 (by decide), mode 1 (by decide)]
  split <;> simp_all

/-- A completed frame whose timestamp passes the end of memory (R108; log 31). -/
theorem runTxDone_stampOverflow {d : Dev} {q : Fin 4} {dr : TxDraws} {s : State} {fr : TxFrame} {h : Word × Word}
    {rest : List (Word × Word)} (inflight : ((s.dev d).queue q).inflight = some fr) (descs : fr.descs = h :: rest)
    (sent : outcomeIsOk (txOutcome fr dr.outcome) = true)
    (draws : txDrawsInSet dr s d fr (txImage (s.dev d) fr).frame.length = true)
    (stamped : stampStored (dmacfgTxext fr.conf.dmacfg) fr.conf.txBdControl (txImage (s.dev d) fr).ptp = true)
    (stop : 2 ^ 32 ≤ h.1.toNat + 12) : runTxDone d q dr s = .fault .addressOverflow := by
  simp only [runTxDone, inflight, draws, sent, txStampOverflow, descs, captureStamp_isSome, stamped, stop, Bool.not_true,
    Bool.false_eq_true, if_true, if_false, Bool.and_self, decide_true]

end Sys2Proof.Machine
end

section
/-! PROOF. Where an address of the receive engine passes the end of memory (20_memory R108; 42_rx_ring R352, R360, R361).
The data step fills the descriptors of a chain one by one, and the bytes it stores leave the words of their ring alone. -/

namespace Sys2Proof.Machine

/-! ### Words beside the buffers -/

theorem Memory.read32_congr {m m' : Memory} {a : Word} (h : ∀ b, inWord a b → Memory.read m' b = Memory.read m b) :
    Memory.read32 m' a = Memory.read32 m a := by
  rw [Memory.read32, Memory.read32, h _ (.inl rfl), h _ (.inr (.inl rfl)), h _ (.inr (.inr (.inl rfl))),
    h _ (.inr (.inr (.inr rfl)))]

/-- Storing a frame changes no byte outside the buffers of its descriptors. -/
theorem Memory.read_storeOver {bytes : Nat} (descs : List (Word × Word)) {off b : Nat} (m : Memory) (l : List Byte)
    (hoff : off ≤ bytes) (h : ∀ r ∈ descs, b < (rxAddr r.2).toNat ∨ (rxAddr r.2).toNat + bytes ≤ b) :
    Memory.read (storeOver bytes off m descs l) b = Memory.read m b := by
  induction descs generalizing off m l with
  | nil => rfl
  | cons p rest ih =>
    have outside := h p (by simp)
    have size : (l.take (bytes - off)).length ≤ bytes - off := List.length_take_le _ _
    rw [storeOver, ih _ _ (Nat.zero_le _) fun r hr => h r (by simp [hr]), Memory.read_writeBytes, if_neg (by omega)]

theorem Memory.read32_storeOver {bytes off : Nat} {descs : List (Word × Word)} {words : List Word} {a : Word}
    (m : Memory) (l : List Byte) (hoff : off ≤ bytes) (h : BuffersOff bytes descs words) (ha : a ∈ words) :
    Memory.read32 (storeOver bytes off m descs l) a = Memory.read32 m a :=
  Memory.read32_congr fun b hb => Memory.read_storeOver descs m l hoff fun r hr => h r hr a ha b hb

theorem BuffersOff.mono {bytes : Nat} {descs descs' : List (Word × Word)} {words words' : List Word}
    (h : BuffersOff bytes descs words) (hd : descs' ⊆ descs) (hw : words' ⊆ words) : BuffersOff bytes descs' words' :=
  fun r hr a ha => h r (hd hr) a (hw ha)

/-! ### Chains -/

section Chain

variable {m m' : Memory} {base first : Word} {step : Nat}

theorem RxChain.congr {descs : List (Word × Word)} {a b : Word} (h : RxChain m base first step a descs b)
    (same : ∀ w ∈ descs.map Prod.fst, Memory.read32 m' w = Memory.read32 m w) :
    RxChain m' base first step a descs b := by
  induction descs generalizing a with
  | nil => exact h
  | cons p rest ih =>
    obtain ⟨rfl, hw, own, c, next, more, chain⟩ := h
    exact ⟨rfl, hw.trans (same _ (by simp)).symm, own, c, next, more,
      ih chain fun w hw => same w (List.mem_cons_of_mem _ hw)⟩

/-- A chain of one more descriptor is a chain to that descriptor, which is not where the ring came round. -/
theorem RxChain.append_singleton {descs : List (Word × Word)} {z : Word × Word} {a b : Word}
    (h : RxChain m base first step a (descs ++ [z]) b) :
    RxChain m base first step a descs z.1 ∧ (descs = [] ∨ z.1 ≠ first) ∧ z.2 = Memory.read32 m z.1
      ∧ rxOwn z.2 = false ∧ nextDesc base (rxWrap z.2) step z.1 = some b := by
  induction descs generalizing a with
  | nil =>
    obtain ⟨rfl, hw, own, c, next, -, rfl⟩ := h
    exact ⟨rfl, .inl rfl, hw, own, next⟩
  | cons p rest ih =>
    obtain ⟨rfl, hw, own, c, next, more, chain⟩ := h
    obtain ⟨before, round, last⟩ := ih chain
    refine ⟨⟨rfl, hw, own, c, next, fun _ => more (by simp), before⟩, .inr ?_, last⟩
    rcases round with rfl | round
    · obtain rfl : c = z.1 := before
      exact more (by simp)
    · exact round

end Chain

/-! ### The data step -/

section Fill

variable {o : Oracle} {g : RxRing}

/-- The offset into the buffer of the next descriptor, when the frame has the descriptors `acc` (42_rx_ring R362). -/
def RxRing.start (g : RxRing) (acc : List (Word × Word)) : Nat := if acc.isEmpty then g.offset else 0

theorem RxRing.start_le (g : RxRing) (acc : List (Word × Word)) : g.start acc ≤ g.offset := by
  unfold RxRing.start
  split <;> omega

/-- The check that the ring has come round, at a descriptor to which it has not. -/
theorem comeRound_eq_false {acc : List (Word × Word)} {a first : Word} (h : acc = [] ∨ a ≠ first) :
    (!acc.isEmpty && decide (a = first)) = false := by
  rcases h with rfl | h
  · rfl
  · simp [h]

/-- One hardware-owned descriptor, whose bytes and whose successor lie in memory. -/
theorem rxFill_succ (ok : ∀ k a len, o.busErr k a len = false) {m : Memory} {a w0 b : Word} (fuel n c : Nat)
    {acc : List (Word × Word)} {rest : List Byte} (hw : Memory.read32 m a = w0) (own : rxOwn w0 = false)
    (round : acc = [] ∨ a ≠ g.first) (hc : min (g.bytes - g.start acc) rest.length = c)
    (fit : (rxAddr w0).toNat + g.start acc + c < 2 ^ 32) (next : nextDesc g.base (rxWrap w0) g.stride a = some b) :
    rxFill o g (fuel + 1) m n a acc rest =
      let m' := Memory.writeBytes m ((rxAddr w0).toNat + g.start acc) (rest.take c)
      if rest.length = c then .filled m' (n + 1 + c) (acc ++ [(a, w0)]) b
      else rxFill o g fuel m' (n + 1 + c) b (acc ++ [(a, w0)]) (rest.drop c) := by
  subst hc
  have fit' := Nat.not_le.mpr fit
  rw [RxRing.start] at fit' ⊢
  simp only [rxFill, dmaRead32_eq ok, hw, own, comeRound_eq_false round, Bool.or_false, Bool.false_eq_true, if_false, fit',
    dmaWriteBytes_eq o _ _ _ _ ok, if_true, next]

/-- A data step stops at a descriptor where the bytes stored, or its successor, reach the end of memory. -/
theorem rxFill_overflow (ok : ∀ k a len, o.busErr k a len = false) {m : Memory} {a w0 : Word} {fuel : Nat} (n : Nat)
    {acc : List (Word × Word)} {rest : List Byte} (hfuel : 0 < fuel) (hw : Memory.read32 m a = w0)
    (own : rxOwn w0 = false) (round : acc = [] ∨ a ≠ g.first)
    (h : 2 ^ 32 ≤ (rxAddr w0).toNat + g.start acc + min (g.bytes - g.start acc) rest.length
      ∨ (rxWrap w0 = false ∧ 2 ^ 32 ≤ a.toNat + g.stride)) :
    rxFill o g fuel m n a acc rest = .fault .addressOverflow := by
  obtain ⟨k, rfl⟩ := Nat.exists_eq_succ_of_ne_zero hfuel.ne'
  rw [RxRing.start] at h
  simp only [rxFill, dmaRead32_eq ok, hw, own, comeRound_eq_false round, Bool.or_false, Bool.false_eq_true, if_false,
    dmaWriteBytes_eq o _ _ _ _ ok, if_true]
  generalize (if acc.isEmpty = true then g.offset else 0) = start at h ⊢
  split
  · rfl
  · next fits =>
    obtain ⟨wrap, stop⟩ := h.resolve_left fits
    rw [nextDesc_eq_none wrap stop]

/-- A data step ends at a descriptor that holds the bytes that are left. -/
theorem rxFill_last (ok : ∀ k a len, o.busErr k a len = false) {m : Memory} {a w0 b : Word} {fuel : Nat} (n : Nat)
    {acc : List (Word × Word)} {rest : List Byte} (hfuel : 0 < fuel) (hw : Memory.read32 m a = w0)
    (own : rxOwn w0 = false) (round : acc = [] ∨ a ≠ g.first) (next : nextDesc g.base (rxWrap w0) g.stride a = some b)
    (hold : rest.length ≤ g.bytes - g.start acc)
    (fit : (rxAddr w0).toNat + g.start acc + rest.length < 2 ^ 32) :
    rxFill o g fuel m n a acc rest =
      .filled (Memory.writeBytes m ((rxAddr w0).toNat + g.start acc) rest) (n + 1 + rest.length) (acc ++ [(a, w0)]) b := by
  obtain ⟨k, rfl⟩ := Nat.exists_eq_succ_of_ne_zero hfuel.ne'
  rw [rxFill_succ ok k n _ hw own round (Nat.min_eq_right hold) fit next]
  simp only [if_true, List.take_length]

/-- A data step fills a chain of descriptors that does not hold the frame. -/
theorem rxFill_chain (ok : ∀ k a len, o.busErr k a len = false) (fuel : Nat) (descs : List (Word × Word)) {m : Memory}
    (n : Nat) {a b : Word} (acc : List (Word × Word)) {rest : List Byte} (hoff : g.offset ≤ g.bytes)
    (chain : RxChain m g.base g.first g.stride a descs b) (round : descs = [] ∨ acc = [] ∨ a ≠ g.first)
    (fit : ∀ r ∈ descs, (rxAddr r.2).toNat + g.bytes < 2 ^ 32)
    (buffers : BuffersOff g.bytes descs (descs.map Prod.fst))
    (more : descs.length * g.bytes < g.start acc + rest.length) :
    rxFill o g (fuel + descs.length) m n a acc rest =
      rxFill o g fuel (storeOver g.bytes (g.start acc) m descs rest)
        (n + descs.length + (descs.length * g.bytes - g.start acc)) b (acc ++ descs)
        (rest.drop (descs.length * g.bytes - g.start acc)) := by
  induction descs generalizing m n a acc rest with
  | nil =>
    obtain rfl : a = b := chain
    simp [storeOver]
  | cons p tail ih =>
    obtain ⟨rfl, hw, own, c, next, follow, chain⟩ := chain
    have start := (g.start_le acc).trans hoff
    have fits := fit p (by simp)
    rw [List.length_cons, Nat.succ_mul] at more
    have room : min (g.bytes - g.start acc) rest.length = g.bytes - g.start acc := by omega
    have fresh : g.start (acc ++ [p]) = 0 := by simp [RxRing.start]
    have rounds : tail = [] ∨ acc ++ [p] = [] ∨ c ≠ g.first :=
      (eq_or_ne tail []).imp id fun h => .inr (follow h)
    -- the bytes just stored leave the words of the rest of the chain alone
    have chain' := chain.congr (m' := storeOver g.bytes (g.start acc) m [p] rest) fun w hw =>
      Memory.read32_storeOver m rest start
        (buffers.mono (descs' := [p]) (words' := tail.map Prod.fst) (by simp) (by simp)) hw
    have left : tail.length * g.bytes < g.start (acc ++ [p]) + (rest.drop (g.bytes - g.start acc)).length := by
      rw [fresh, List.length_drop]
      omega
    rw [List.length_cons, ← Nat.add_assoc, rxFill_succ ok _ n _ hw.symm own (by simpa using round) room (by omega) next]
    simp only
    rw [if_neg (by omega)]
    refine (ih _ (acc ++ [p]) chain' rounds (fun r hr => fit r (by simp [hr]))
      (buffers.mono (by simp) (by simp)) left).trans ?_
    rw [fresh, List.drop_drop, Nat.succ_mul]
    congr 1
    · omega
    · simp
    · congr 1
      omega

end Fill

end Sys2Proof.Machine
end

section
/-! PROOF. The stops of the receive path at an address (20_memory R108; 42_rx_ring R352, R360, R361): a frame that reaches a
queue is stored under the registers as they stand, and the data step meets the descriptor behind a chain. -/

namespace Sys2Proof.Machine

/-! ### The data step behind a chain -/

/-- A chain that does not hold the frame has no more descriptors than the frame has bytes. -/
theorem chain_length_le {k bytes off len : Nat} (h : k * bytes < off + len) (hoff : off < bytes) : k ≤ len := by
  cases k with
  | zero => exact Nat.zero_le _
  | succ j =>
    have : j ≤ j * bytes := Nat.le_mul_of_pos_right j (by omega)
    rw [Nat.succ_mul] at h
    omega

/-- A data step passes a chain that does not hold the frame: what is left begins at the descriptor behind it, and the words
that the buffers do not lie on are as they were. -/
theorem rxFill_behind {o : Oracle} {g : RxRing} (ok : ∀ k a len, o.busErr k a len = false) {m : Memory}
    {descs : List (Word × Word)} {words : List Word} {b : Word} {l : List Byte} (hoff : g.offset < g.bytes)
    (chain : RxChain m g.base g.first g.stride g.first descs b)
    (fit : ∀ r ∈ descs, (rxAddr r.2).toNat + g.bytes < 2 ^ 32) (buffers : BuffersOff g.bytes descs words)
    (own : descs.map Prod.fst ⊆ words) (more : descs.length * g.bytes < g.offset + l.length) :
    ∃ fuel m' n rest, 0 < fuel ∧ rxFill o g (l.length + 1) m 0 g.first [] l = rxFill o g fuel m' n b descs rest
      ∧ (∀ w ∈ words, Memory.read32 m' w = Memory.read32 m w)
      ∧ g.start descs + rest.length = g.offset + l.length - descs.length * g.bytes := by
  have short := chain_length_le more hoff
  obtain ⟨fuel, hfuel⟩ : ∃ fuel, l.length + 1 = fuel + 1 + descs.length := ⟨l.length - descs.length, by omega⟩
  have fill := rxFill_chain ok (fuel + 1) descs 0 [] hoff.le chain (.inr (.inl rfl)) fit (buffers.mono (fun _ h => h) own)
    more
  rw [← hfuel] at fill
  refine ⟨_, _, _, _, fuel.succ_pos, fill, fun w hw => Memory.read32_storeOver m l hoff.le buffers hw, ?_⟩
  rw [List.length_drop]
  cases descs with
  | nil => simp [RxRing.start]
  | cons p tail =>
    simp only [RxRing.start, List.length_cons, Nat.succ_mul, List.isEmpty_nil, List.isEmpty_cons, if_true,
      Bool.false_eq_true, if_false] at more ⊢
    omega

/-! ### Storing a frame -/

/-- The ring of a queue as the data step uses it. -/
def Device.rxRing (x : Device) (t : Fin 4) : RxRing :=
  ⟨(x.queue t).rxBase, (x.queue t).rxCur, rxBufBytes x t, stride (dmacfgRxext x.dmacfg), ncfgrRbof x.ncfgr⟩

theorem length_rxStored (ncfgr : Word) (f : List Byte) :
    (rxStored ncfgr f).length = if ncfgrRfcs ncfgr then f.length - 4 else f.length := by
  unfold rxStored
  split
  · simp
  · rfl

/-- Buffers that are not empty are longer than the offset into the first. -/
theorem Device.rxRing_offset_lt (x : Device) (t : Fin 4) (h : (x.rxRing t).bytes ≠ 0) :
    (x.rxRing t).offset < (x.rxRing t).bytes := by
  have small : (x.rxRing t).offset < 4 := (x.ncfgr.extractLsb' 14 2).isLt
  simp only [Device.rxRing, rxBufBytes] at *
  omega

section Store

variable {d : Dev} {t : Fin 4} {p : Parsed} {g : Option PtpMsg} {badfcs : Bool} {errs : List Nat} {f : List Byte}
  {x : Device} {s : State} {ring : RxRing} {len : Nat}

theorem rxStore_noBuffers (h : (x.rxRing t).bytes = 0) :
    rxStore d t p g badfcs errs f x s = .fault .rxBufferSizeZero := if_pos h

theorem rxStore_fault {r : Fault} (h : (x.rxRing t).bytes ≠ 0)
    (fill : rxFill ⟨errs, s.cfg.holes⟩ (x.rxRing t) ((rxStored x.ncfgr f).length + 1) s.mem 0 (x.rxRing t).first []
      (rxStored x.ncfgr f) = .fault r) :
    rxStore d t p g badfcs errs f x s = .fault r := by
  have zero : ¬ rxBufBytes x t = 0 := h
  simp only [Device.rxRing] at fill
  simp only [rxStore, zero, if_false, fill]

/-- A timestamp that passes the end of memory, after the status words before it are written (log 31). -/
theorem rxStore_stampOverflow (noErr : NoBusErr errs s.cfg) {m : Memory} {n : Nat} {before : List (Word × Word)}
    {z : Word × Word} {cur : Word} (h : (x.rxRing t).bytes ≠ 0)
    (fill : rxFill ⟨errs, s.cfg.holes⟩ (x.rxRing t) ((rxStored x.ncfgr f).length + 1) s.mem 0 (x.rxRing t).first []
      (rxStored x.ncfgr f) = .filled m n (before ++ [z]) cur)
    (stamped : stampStored (dmacfgRxext x.dmacfg) x.rxBdControl g = true) (stop : 2 ^ 32 ≤ z.1.toNat + 12) :
    rxStore d t p g badfcs errs f x s = .fault .addressOverflow := by
  have zero : ¬ rxBufBytes x t = 0 := h
  simp only [Device.rxRing] at fill
  simp only [rxStore, zero, if_false, fill, List.getLast?_concat, Option.getD_some, captureStamp_isSome, stamped, stop,
    decide_true, Bool.and_self, if_true, List.dropLast_concat, dmaWriteWords_eq _ _ _ _ noErr.busErr]

/-- A chain, and behind it a descriptor that reaches the end of memory. -/
theorem rxStore_overflow (hring : x.rxRing t = ring) (hlen : (rxStored x.ncfgr f).length = len)
    (noErr : NoBusErr errs s.cfg) {descs : List (Word × Word)} {a : Word}
    (h : ring.bytes ≠ 0)
    (chain : RxChain s.mem ring.base ring.first ring.stride ring.first descs a)
    (round : descs = [] ∨ a ≠ ring.first)
    (more : descs.length * ring.bytes < ring.offset + len)
    (fit : ∀ r ∈ descs, (rxAddr r.2).toNat + ring.bytes < 2 ^ 32)
    (buffers : BuffersOff ring.bytes descs (a :: descs.map Prod.fst))
    (own : rxOwn (Memory.read32 s.mem a) = false)
    (stop : 2 ^ 32 ≤ (rxAddr (Memory.read32 s.mem a)).toNat + min ring.bytes
        (ring.offset + len - descs.length * ring.bytes)
      ∨ (rxWrap (Memory.read32 s.mem a) = false ∧ 2 ^ 32 ≤ a.toNat + ring.stride)) :
    rxStore d t p g badfcs errs f x s = .fault .addressOverflow := by
  subst hring hlen
  have offset := x.rxRing_offset_lt t h
  obtain ⟨fuel, m', n, rest, pos, fill, same, left⟩ :=
    rxFill_behind noErr.busErr offset chain fit buffers (List.subset_cons_self _ _) more
  refine rxStore_fault h (fill.trans ?_)
  have start := (x.rxRing t).start_le descs
  refine rxFill_overflow noErr.busErr n pos (same a (by simp)) own round (stop.imp_left fun k => ?_)
  omega

/-- A chain that holds the frame, with a timestamp in its last descriptor that passes the end of memory. -/
theorem rxStore_chain_stampOverflow (hring : x.rxRing t = ring) (hlen : (rxStored x.ncfgr f).length = len)
    (noErr : NoBusErr errs s.cfg) {before : List (Word × Word)} {z : Word × Word} {a : Word}
    (chain : RxChain s.mem ring.base ring.first ring.stride ring.first
      (before ++ [z]) a)
    (more : before.length * ring.bytes < ring.offset + len)
    (hold : ring.offset + len ≤ (before.length + 1) * ring.bytes)
    (fit : ∀ r ∈ before ++ [z], (rxAddr r.2).toNat + ring.bytes < 2 ^ 32)
    (buffers : BuffersOff ring.bytes (before ++ [z]) ((before ++ [z]).map Prod.fst))
    (stamped : stampStored (dmacfgRxext x.dmacfg) x.rxBdControl g = true) (stop : 2 ^ 32 ≤ z.1.toNat + 12) :
    rxStore d t p g badfcs errs f x s = .fault .addressOverflow := by
  subst hring hlen
  rw [Nat.succ_mul] at hold
  have h : (x.rxRing t).bytes ≠ 0 := by omega
  have offset := x.rxRing_offset_lt t h
  obtain ⟨chain', round, word, own, next⟩ := chain.append_singleton
  obtain ⟨fuel, m', n, rest, pos, fill, same, left⟩ := rxFill_behind noErr.busErr offset chain'
    (fun r hr => fit r (by simp [hr])) (buffers.mono (by simp) (fun _ k => k)) (by simp) more
  have start := (x.rxRing t).start_le before
  have last := fit z (by simp)
  have ends := rxFill_last noErr.busErr n pos ((same z.1 (by simp)).trans word.symm) own round next
    (rest := rest) (by omega) (by omega)
  exact rxStore_stampOverflow noErr h (fill.trans ends) stamped stop

end Store

/-! ### A frame that reaches a queue -/

/-- Two devices whose queue `t` receives under the same registers and ring pointers. -/
structure Device.SameRx (x y : Device) (t : Fin 4) : Prop where
  ncfgr       : y.ncfgr = x.ncfgr
  rxBdControl : y.rxBdControl = x.rxBdControl
  dmacfg      : y.dmacfg = x.dmacfg
  ring        : y.rxRing t = x.rxRing t

theorem Device.SameRx.trans {x y z : Device} {t : Fin 4} (h : x.SameRx y t) (k : y.SameRx z t) : x.SameRx z t :=
  ⟨k.ncfgr.trans h.ncfgr, k.rxBdControl.trans h.rxBdControl, k.dmacfg.trans h.dmacfg, k.ring.trans h.ring⟩

theorem Device.sameRx_countAll (x : Device) (l : List Stat) (t : Fin 4) : x.SameRx (x.countAll l) t where
  ncfgr := x.countAll_ncfgr l
  rxBdControl := x.countAll_rxBdControl l
  dmacfg := x.countAll_dmacfg l
  ring := by simp [Device.rxRing, rxBufBytes]

theorem Device.sameRx_irqDevice (x : Device) (b : Word) (t : Fin 4) : x.SameRx (x.irqDevice b) t where
  ncfgr := rfl
  rxBdControl := rfl
  dmacfg := rfl
  ring := by
    have queue : ((x.irqDevice b).queue t).rxBase = (x.queue t).rxBase
        ∧ ((x.irqDevice b).queue t).rxCur = (x.queue t).rxCur := by
      rw [Device.irqDevice, Device.queue_irq]
      split
      · next h => subst h; exact ⟨rfl, rfl⟩
      · exact ⟨rfl, rfl⟩
    simp only [Device.rxRing, queue]
    rfl

theorem Device.sameRx_ptpRxEvent (x : Device) (k : Nat) (t : Fin 4) : x.SameRx (x.ptpRxEvent k) t :=
  match k with
  | 0 | 1 | 2 | 3 => ⟨rfl, rfl, rfl, (Device.sameRx_irqDevice { x with ptp := _ } _ t).ring⟩
  | _ + 4 => ⟨rfl, rfl, rfl, rfl⟩

/-- A frame that reaches an enabled queue is stored there (42_rx_ring R355, R357), by a device whose checks and event
are recorded and whose receive registers are as they were. -/
theorem RxReaches.rxDevice_eq {s : State} {d : Dev} {f : List Byte} {dr : RxDraws} {t : Fin 4}
    (h : RxReaches s d f dr t) (enabled : t = 0 ∨ ((s.dev d).queue t).rxQdis = false) :
    ∃ y, (s.dev d).SameRx y t ∧ rxDevice d f dr s =
      rxStore d t (parseFrame (s.dev d).stackedVlan (f.length - 4) f) (rxMessage (s.dev d) f)
        (!fcsOk dr.runtFcs f) dr.errs f y s := by
  obtain ⟨re, noOverrun, ⟨checks, accepts⟩, routed⟩ := h
  have receives : (decide (t ≠ 0) && ((s.dev d).queue t).rxQdis) = false := by
    rcases enabled with rfl | e
    · rfl
    · simp [e]
  simp only [rxDevice, re, noOverrun, checks, accepts, routed, receives, Bool.not_true, Bool.false_eq_true, if_false]
  refine ⟨_, ?_, rfl⟩
  split
  · exact (Device.sameRx_countAll _ _ _).trans (Device.sameRx_ptpRxEvent _ _ _)
  · exact Device.sameRx_countAll _ _ _

/-- Settles O51: the fetch, the timestamp of a completed frame, and the stops of a received one. -/
theorem addressOverflows : Obligations.AddressOverflows := by
  refine ⟨fun d q errs s descs a noErr enabled => runTxFetch_overflow noErr enabled,
    fun d q dr s fr h rest => runTxDone_stampOverflow, fun d f dr s t reaches => ?_⟩
  intro x cur step chain bytes off len enabled
  obtain ⟨y, ⟨ncfgr, control, dmacfg, ring⟩, store⟩ := reaches.rxDevice_eq enabled
  have stored : (rxStored y.ncfgr f).length = len := by rw [ncfgr, length_rxStored]
  rw [store]
  refine ⟨fun zero => rxStore_noBuffers (ring ▸ zero), ?_, ?_⟩
  · intro descs a noErr hbytes chained round more fit buffers w0 stop own reach
    exact rxStore_overflow ring stored noErr (Nat.pos_iff_ne_zero.mp hbytes) chained round more fit buffers own reach
  · intro before z a noErr chained more hold fit buffers stamped stop
    exact rxStore_chain_stampOverflow ring stored noErr chained more hold fit buffers
      (by rw [dmacfg, control]; exact stamped) stop

end Sys2Proof.Machine
end

section
/-! PROOF. The access key and the transaction word around it (30_encoding R141, R142; log 1): what each part of an encoded
access is, what a decoded access says of its transaction, and the step that runs it (R170). -/

namespace Sys2Proof.Machine

/-! ### The access key -/

theorem keyFor_offset (off : Nat) (op : MmioOp) : (keyFor off op).extractLsb' 0 15 = BitVec.ofNat 15 off := by
  cases op <;> exact BitVec.extractLsb'_append_eq_right

theorem keyFor_read_direction (off : Nat) : (keyFor off .read).getLsbD 15 = false := by
  rw [keyFor, BitVec.getLsbD_append]
  rfl

theorem keyFor_write_direction (off : Nat) (v : Word) : (keyFor off (.write v)).getLsbD 15 = true := by
  rw [keyFor, BitVec.getLsbD_append]
  rfl

/-- A key is its direction above its offset. -/
theorem key_eq_append (k : BitVec 16) : BitVec.ofBool (k.getLsbD 15) ++ k.extractLsb' 0 15 = k := by
  have bit : ∀ b : BitVec 1, BitVec.ofBool (b == 1#1) = b := by decide
  rw [BitVec.getLsbD_eq_extractLsb', bit]
  exact BitVec.extractLsb'_append_extractLsb'

/-- The key made of a transaction's offset and access is its own key. -/
theorem keyFor_opOf (t : BitVec 64) : keyFor ((keyOf t).extractLsb' 0 15).toNat (opOf t) = keyOf t := by
  have key := key_eq_append (keyOf t)
  unfold opOf
  split
  · next write =>
    rw [write] at key
    rwa [keyFor, BitVec.ofNat_toNat, BitVec.setWidth_eq]
  · next read =>
    rw [Bool.eq_false_of_not_eq_true read] at key
    rwa [keyFor, BitVec.ofNat_toNat, BitVec.setWidth_eq]

/-! ### The device bits -/

theorem ofCode_code (d : Dev) : Dev.ofCode d.code = d := by cases d <;> rfl

theorem code_ofCode (b : BitVec 2) : (Dev.ofCode b).code = b := by decide +revert

/-! ### The parts of a transaction -/

theorem encode_key (i : Instr) : keyOf (encode i) = keyFor i.off i.op := BitVec.extractLsb'_append_eq_right

theorem encode_device (i : Instr) : (encode i).extractLsb' 16 2 = i.dev.code :=
  (BitVec.extractLsb'_append_eq_of_le (by decide)).trans BitVec.extractLsb'_append_eq_right

theorem encode_size (i : Instr) : (encode i).extractLsb' 18 14 = 0#14 :=
  (BitVec.extractLsb'_append_eq_of_le (by decide)).trans
    ((BitVec.extractLsb'_append_eq_of_le (by decide)).trans BitVec.extractLsb'_append_eq_right)

theorem encode_data (i : Instr) : (encode i).extractLsb' 32 32 = dataFor i.op :=
  (BitVec.extractLsb'_append_eq_of_le (by decide)).trans
    ((BitVec.extractLsb'_append_eq_of_le (by decide)).trans BitVec.extractLsb'_append_eq_left)

/-- The lower half of a transaction: the size, the device and the key. -/
theorem transaction_low (t : BitVec 64) :
    t.extractLsb' 0 32 = t.extractLsb' 18 14 ++ t.extractLsb' 16 2 ++ keyOf t := by
  have upper : t.extractLsb' 18 14 ++ t.extractLsb' 16 2 = t.extractLsb' 16 (14 + 2) :=
    BitVec.extractLsb'_append_extractLsb'_eq_extractLsb' rfl
  have whole : t.extractLsb' 16 (14 + 2) ++ t.extractLsb' 0 16 = t.extractLsb' 0 (14 + 2 + 16) :=
    BitVec.extractLsb'_append_extractLsb'_eq_extractLsb' rfl
  rw [upper, keyOf, whole]

/-! ### What decodes -/

/-- What decodes is made by the row of its offset (R142). -/
theorem row_of_decodeAt {d : Dev} {off : Nat} {op : MmioOp} {i : Instr} (h : decodeAt d off op = .ok i) :
    off % 4 = 0 ∧ ∃ mk, lookupRow off rows = some mk ∧ mk d op = i := by
  unfold decodeAt at h
  split at h
  · cases h
  · next aligned =>
    split at h
    · next mk found => exact ⟨not_not.mp aligned, mk, found, Except.ok.inj h⟩
    · cases h

theorem decodeAt_of_row {off : Nat} {mk : Dev → MmioOp → Instr} (aligned : off % 4 = 0)
    (found : lookupRow off rows = some mk) (d : Dev) (op : MmioOp) : decodeAt d off op = .ok (mk d op) := by
  rw [decodeAt, if_neg (not_not_intro aligned), found]

/-- An offset decodes to the access the opcode table makes of it, and to no other (R142). -/
theorem decodeAt_eq_ok_iff {d : Dev} {off : Nat} {op : MmioOp} {i : Instr} :
    decodeAt d off op = .ok i ↔ i.parts = ⟨off, d, op⟩ := by
  constructor
  · intro h
    obtain ⟨-, mk, found, rfl⟩ := row_of_decodeAt h
    exact parts_of_lookupRow found d op
  · intro h
    have row := decodeAt_parts i
    rwa [Instr.dev, Instr.off, Instr.op, h] at row

/-- Where the table has an access at an offset, it has one for every device and direction (R141, R142). -/
theorem decodeAt_off (i : Instr) (d : Dev) (op : MmioOp) : ∃ j, decodeAt d i.off op = .ok j := by
  obtain ⟨aligned, mk, found, -⟩ := row_of_decodeAt (decodeAt_parts i)
  exact ⟨mk d op, decodeAt_of_row aligned found d op⟩

theorem decode_eq_ok_iff {t : BitVec 64} {i : Instr} : decode t = .ok i ↔ t.extractLsb' 18 14 = 0#14
    ∧ i.parts = ⟨((keyOf t).extractLsb' 0 15).toNat, Dev.ofCode (t.extractLsb' 16 2), opOf t⟩ := by
  rw [← decodeAt_eq_ok_iff]
  unfold decode
  split
  · next wide => exact ⟨nofun, fun h => absurd h.1 wide⟩
  · next word => exact ⟨fun h => ⟨not_not.mp word, h⟩, And.right⟩

/-- Every offset of the opcode table fits the 15 bits of the key (R141). -/
theorem off_lt (i : Instr) : i.off < 2 ^ 15 := by
  cases i <;> exact Nat.le_of_ble_eq_true rfl

theorem encode_off (i : Instr) : ((keyOf (encode i)).extractLsb' 0 15).toNat = i.off := by
  rw [encode_key, keyFor_offset, BitVec.toNat_ofNat, Nat.mod_eq_of_lt (off_lt i)]

theorem encode_op (i : Instr) : opOf (encode i) = i.op := by
  rw [opOf, encode_key, encode_data]
  cases i.op with
  | read => rw [keyFor_read_direction]; rfl
  | write v => rw [keyFor_write_direction]; rfl

/-- Settles O1: each part of the transaction is read back by the decoder. -/
theorem encodeDecode : Obligations.EncodeDecode := fun i => by
  rw [decode_eq_ok_iff, encode_off, encode_device, ofCode_code, encode_op]
  exact ⟨encode_size i, rfl⟩

theorem decode_of_encode {t : BitVec 64} {i : Instr} (h : encode i = t) : decode t = .ok i := h ▸ encodeDecode i

/-- Settles O3: the offset alone decides whether a word access decodes, and an access is its offset, device and
direction. -/
theorem decodeTable : Obligations.DecodeTable := by
  refine ⟨fun t => ⟨?_, ?_⟩, fun t i decoded => ?_, fun i j off dev op => ?_⟩
  · rintro ⟨i, decoded⟩
    obtain ⟨size, parts⟩ := decode_eq_ok_iff.mp decoded
    exact ⟨size, i, congrArg AccessParts.off parts⟩
  · rintro ⟨size, i, off⟩
    rw [decode, if_neg (not_not_intro size), ← off]
    exact decodeAt_off i _ _
  · obtain ⟨size, parts⟩ := decode_eq_ok_iff.mp decoded
    have off : i.off = _ := congrArg AccessParts.off parts
    have dev : i.dev = _ := congrArg AccessParts.dev parts
    have op : i.op = opOf t := congrArg AccessParts.op parts
    refine ⟨?_, op, off⟩
    rw [transaction_low, transaction_low t, encode_size, size, encode_device, dev, code_ofCode, encode_key, off, op,
      keyFor_opOf]
  · have same := decodeAt_parts i
    rw [off, dev, op, decodeAt_parts j] at same
    exact (Except.ok.inj same).symm

/-- Settles O2: each word is the encoding of its access. -/
theorem decodeWords : Obligations.DecodeWords :=
  ⟨decode_of_encode (by decide), decode_of_encode (by decide), decode_of_encode (by decide),
    decode_of_encode (by decide), decode_of_encode (by decide), decode_of_encode (by decide),
    decode_of_encode (by decide), decode_of_encode (by decide), decode_of_encode (by decide)⟩

/-! ### The step that runs an access -/

theorem nextInput_cons {s : State} {i : Input} {rest : List Input} (h : s.inputs = i :: rest) :
    nextInput s = (i, { s with inputs := rest }) := by
  rw [nextInput, h]

theorem step_mmio {s : State} {t : BitVec 64} {rest : List Input} {i : Instr} (ok : s.cfg.ok = true)
    (next : s.inputs = .mmio t :: rest) (decoded : decode t = .ok i) : step s = exec i { s with inputs := rest } := by
  simp only [step, ok, if_true, nextInput_cons next, runInput, runMmio, decoded, runDecoded]

theorem withFetchWord_inputs (s : State) (t : BitVec 64) :
    (s.withFetchWord 64 t.toNat).inputs = .mmio t :: s.inputs := by
  rw [State.withFetchWord, BitVec.toNat_mod_cancel, BitVec.ofNat_toNat, BitVec.setWidth_eq]

/-- Settles O4: the decoded access is run, and so is the one the fetch word encodes. -/
theorem stepRunsDecoded : Obligations.StepRunsDecoded :=
  ⟨fun _ _ _ _ ok next decoded => step_mmio ok next decoded,
    fun s i ok => step_mmio ok (withFetchWord_inputs s (encode i)) (encodeDecode i)⟩

end Sys2Proof.Machine
end

section
/-! PROOF. Registers keep their implemented bits and legal values (30_encoding R145; 10_state R34-R64): one rule for each
way a register changes, then one case for each update of Laws/Steps.lean that reaches one. -/

namespace Sys2Proof.Machine

/-! ### Masked words -/

/-- A word cut to a mask has no bit outside it. -/
theorem and_and_not_self (v mask : Word) : v &&& mask &&& ~~~mask = 0 := by simp [BitVec.and_assoc]

/-- Bits cleared leave the reserved bits 0. -/
theorem and_rsvd {w rsvd : Word} (h : w &&& rsvd = 0) (v : Word) : w &&& v &&& rsvd = 0 := by
  rw [BitVec.and_assoc, BitVec.and_comm v, ← BitVec.and_assoc, h]
  exact BitVec.zero_and

/-- Bits set among the others leave the reserved bits 0. -/
theorem or_rsvd {w v rsvd : Word} (h : w &&& rsvd = 0) (k : v &&& rsvd = 0) : (w ||| v) &&& rsvd = 0 := by
  rw [BitVec.and_or_distrib_right, h, k]
  exact BitVec.or_zero

/-- A property of every register of an array survives the write of a value that has it. -/
theorem forall_getElem_set {n : Nat} {P : Fin n → Word → Prop} {xs : Vector Word n} (h : ∀ j, P j xs[j]) (k : Fin n)
    {v : Word} (hv : P k v) (j : Fin n) : P j (xs.set k v)[j] := by
  by_cases same : k = j
  · subst same
    rw [Fin.getElem_fin, Vector.getElem_set_self]
    exact hv
  · rw [Fin.getElem_fin, Vector.getElem_set_ne k.isLt j.isLt (fun e => same (Fin.ext e))]
    exact h j

/-! ### The tick -/

theorem Tsu.tick_inc (t : Tsu) (rollover : Nat) : (t.tick rollover).1.inc = t.inc := by
  unfold Tsu.tick
  simp only
  split <;> rfl

theorem Tsu.tick_subInc (t : Tsu) (rollover : Nat) : (t.tick rollover).1.subInc = t.subInc := by
  unfold Tsu.tick
  simp only
  split <;> rfl

/-! ### Legal devices -/

namespace Device.RegistersLegal

variable {x : Device}

/-- A change of one queue, whose interrupt registers stay legal. -/
theorem modQueue (h : x.RegistersLegal) (q : Fin 4) (f : Queue → Queue)
    (isr : (f (x.queue q)).isr &&& ~~~isrImpl q = 0) (imr : (f (x.queue q)).imr &&& ~~~isrImpl q = 0) :
    (x.modQueue q f).RegistersLegal :=
  { h with
    isr := fun p => by
      rw [Device.queue_modQueue]
      split
      · next same => exact same ▸ isr
      · exact h.isr p
    imr := fun p => by
      rw [Device.queue_modQueue]
      split
      · next same => exact same ▸ imr
      · exact h.imr p }

/-- A change of every queue that leaves the interrupt registers. -/
theorem mapQueues (h : x.RegistersLegal) (f : Queue → Queue) (isr : ∀ y, (f y).isr = y.isr)
    (imr : ∀ y, (f y).imr = y.imr) : (x.mapQueues f).RegistersLegal :=
  { h with
    isr := fun q => by rw [Device.queue_mapQueues, isr]; exact h.isr q
    imr := fun q => by rw [Device.queue_mapQueues, imr]; exact h.imr q }

theorem ite (c : Bool) {x y : Device} (h : x.RegistersLegal) (k : x.RegistersLegal → y.RegistersLegal) :
    (if c then y else x).RegistersLegal := by
  split
  · exact k h
  · exact h

theorem clearStats (h : x.RegistersLegal) : x.clearStats.RegistersLegal := { h with }

theorem txDisable (h : x.RegistersLegal) : x.txDisable.RegistersLegal :=
  { h.mapQueues (fun y => { y with txActive := false, inflight := none, txCur := y.txBase }) (fun _ => rfl)
      fun _ => rfl with }

theorem rxDisable (h : x.RegistersLegal) : x.rxDisable.RegistersLegal := h.mapQueues _ (fun _ => rfl) fun _ => rfl

theorem txStart (h : x.RegistersLegal) : x.txStart.RegistersLegal :=
  { h.mapQueues (fun y => { y with txActive := y.txActive || !y.txQdis }) (fun _ => rfl) fun _ => rfl with }

theorem txHalt (h : x.RegistersLegal) : x.txHalt.RegistersLegal := by
  unfold Device.txHalt
  split
  · exact h.mapQueues _ (fun _ => rfl) fun _ => rfl
  · exact { h with }

theorem txHaltCheck (h : x.RegistersLegal) : x.txHaltCheck.RegistersLegal :=
  .ite _ h fun k => { k.mapQueues (fun y => { y with txActive := false }) (fun _ => rfl) fun _ => rfl with }

/-- An NCR write goes through changes that leave every register, and stores its stored bits (40_registers R191). -/
theorem writeNcr (h : x.RegistersLegal) (v : Word) : (x.writeNcr v).RegistersLegal := by
  have disabled := RegistersLegal.ite (ncrTe x.ncr && !ncrTe v) h txDisable
  have returned := RegistersLegal.ite (ncrRe x.ncr && !ncrRe v) disabled rxDisable
  have cleared := RegistersLegal.ite (ncrClrStat v) returned clearStats
  have started := RegistersLegal.ite (ncrTStart v && ncrTe v) cleared txStart
  have halted := RegistersLegal.ite (ncrTHalt v) started txHalt
  exact { halted with ncr := and_and_not_self v ncrStored }

theorem irq (h : x.RegistersLegal) (q : Fin 4) {bits : Word} (implemented : bits &&& ~~~isrImpl q = 0) :
    (x.irq q bits).RegistersLegal := h.modQueue q _ (or_rsvd (h.isr q) implemented) (h.imr q)

theorem irqDevice (h : x.RegistersLegal) {bits : Word} (implemented : bits &&& ~~~isrImpl 0 = 0) :
    (x.irqDevice bits).RegistersLegal := h.irq 0 implemented

theorem tsuTick (h : x.RegistersLegal) (rollover : Nat) : (x.tsuTick rollover).RegistersLegal := by
  have ticked : { x with tsu := (x.tsu.tick rollover).1 }.RegistersLegal :=
    { h with
      inc := (x.tsu.tick_inc rollover).symm ▸ h.inc
      subInc := (x.tsu.tick_subInc rollover).symm ▸ h.subInc }
  exact .ite _ ticked fun k => k.irqDevice (by decide)

theorem ptpRxEvent (h : x.RegistersLegal) (kind : Nat) : (x.ptpRxEvent kind).RegistersLegal := by
  have recorded (p : PtpRegs) : { x with ptp := p }.RegistersLegal := { h with }
  match kind with
  | 0 | 1 | 2 | 3 => exact irqDevice (recorded _) (by decide)
  | _ + 4 => exact h

theorem ptpTxEvent (h : x.RegistersLegal) (kind : Nat) : (x.ptpTxEvent kind).RegistersLegal := by
  have recorded (p : PtpRegs) : { x with ptp := p }.RegistersLegal := { h with }
  match kind with
  | 0 | 1 | 2 | 3 => exact irqDevice (recorded _) (by decide)
  | _ + 4 => exact h

theorem reset : Device.reset.RegistersLegal := by
  constructor <;> decide

end Device.RegistersLegal

/-- Every update of a device keeps its registers legal: a write stores a value whose conditions it has checked, an event
sets implemented bits, and the rest leaves every register as it was. -/
theorem Device.Update.registersLegal {c : Params} {d : Dev} {x y : Device} (u : Device.Update c d x y)
    (h : x.RegistersLegal) : y.RegistersLegal := by
  induction u with
  | refl => exact h
  | trans _ _ first second => exact second (first h)
  | reset => exact .reset
  | ncr x v => exact h.writeNcr v
  | ncfgr x v rsvd rxcoen => exact { h with ncfgr := rsvd, rxcoen := rxcoen }
  | dmacfg x v rsvd hw0 => exact { h with dmacfg := rsvd, dmacfgHw0 := hw0 }
  | jml x v rsvd legal => exact { h with jml := rsvd, jmlLegal := legal }
  | stackedVlan x v rsvd depth => exact { h with vlan := rsvd, vlanDepth := depth }
  | txBdControl x v rsvd => exact { h with txBdControl := rsvd }
  | rxBdControl x v rsvd => exact { h with rxBdControl := rsvd }
  | tsuSubInc x v rsvd => exact { h with subInc := rsvd }
  | tsuInc x v rsvd => exact { h with inc := rsvd }
  | clearTsr x v => exact { h with tsr := and_rsvd h.tsr _ }
  | clearRsr x v => exact { h with rsr := and_rsvd h.rsr _ }
  | setTsr x bits implemented => exact { h with tsr := or_rsvd h.tsr implemented }
  | setRsr x bits implemented => exact { h with rsr := or_rsvd h.rsr implemented }
  | sat x k v rsvd => exact { h with sat := forall_getElem_set (P := fun k w => w &&& satRsvd k = 0) h.sat k rsvd }
  | tidm x k v rsvd => exact { h with tidm := forall_getElem_set (P := fun _ w => w &&& 0x7FFF0000#32 = 0) h.tidm k rsvd }
  | rxBufSize x k v rsvd =>
    exact { h with rxBufSize := forall_getElem_set (P := fun _ w => w &&& 0xFFFFFF00#32 = 0) h.rxBufSize k rsvd }
  | t1 x n v rsvd => exact { h with t1 := forall_getElem_set (P := fun _ w => w &&& 0x80000000#32 = 0) h.t1 n rsvd }
  | t2 x n v rsvd => exact { h with t2 := forall_getElem_set (P := fun _ w => w &&& 0x00000080#32 = 0) h.t2 n rsvd }
  | ethtype x n v rsvd =>
    exact { h with ethtype := forall_getElem_set (P := fun _ w => w &&& 0xFFFF0000#32 = 0) h.ethtype n rsvd }
  | cmpW1 x n v rsvd =>
    exact { h with cmpW1 := forall_getElem_set (P := fun _ w => w &&& 0xFFFFFC00#32 = 0) h.cmpW1 n rsvd }
  | isrRead x q => exact h.modQueue q _ BitVec.zero_and (h.imr q)
  | ier x q v => exact h.modQueue q _ (h.isr q) (and_rsvd (h.imr q) _)
  | idr x q v => exact h.modQueue q _ (h.isr q) (or_rsvd (h.imr q) (and_and_not_self v _))
  | irq x q bits implemented => exact h.irq q implemented
  | txPtr x q | rxPtr x q | txInactive x q | txFetch x q | rxCur x q => exact h.modQueue q _ (h.isr q) (h.imr q)
  | txFinish x q => exact (h.modQueue q _ (h.isr q) (h.imr q)).txHaltCheck
  | tick x => exact h.tsuTick _
  | ptpRx x k => exact h.ptpRxEvent k
  | ptpTx x k => exact h.ptpTxEvent k
  | hrb | hrt | sab | rxPtpUnicast | txPtpUnicast | cmpW0 | tsuSec | tsuNsec | statRead | octTx | octRx | octTxRead
  | octRxRead | octTxShadow | octRxShadow | count => exact { h with }

/-- Settles O12: each device goes through updates that keep its registers legal. -/
theorem stepKeepsRegistersLegal : Obligations.StepKeepsRegistersLegal := by
  intro s t h hs d
  obtain ⟨-, change⟩ := step_change h
  exact (change.dev d).registersLegal (hs d)

end Sys2Proof.Machine
end

section
/-! PROOF. NCR (40_registers R190, R191): what each stage of a write makes of a queue, of the pending halt and of the
rest of the device, and the stages put together in the rule's order. -/

namespace Sys2Proof.Machine

/-! ### Frames in flight -/

theorem Device.mem_queues_iff (x : Device) (y : Queue) : y ∈ x.queues.toList ↔ ∃ q, x.queue q = y := by
  rw [Vector.mem_toList_iff, Vector.mem_iff_getElem]
  exact ⟨fun ⟨n, h, e⟩ => ⟨⟨n, h⟩, e⟩, fun ⟨q, e⟩ => ⟨q.val, q.isLt, e⟩⟩

theorem Device.idleInflight_iff (x : Device) : x.idleInflight = true ↔ ∀ q, (x.queue q).inflight = none := by
  rw [Device.idleInflight, List.all_eq_true]
  simp only [Device.mem_queues_iff, forall_exists_index, forall_apply_eq_imp_iff, Option.isNone_iff_eq_none]

theorem Device.idleInflight_congr {x y : Device} (h : ∀ q, (y.queue q).inflight = (x.queue q).inflight) :
    y.idleInflight = x.idleInflight := by
  rw [Bool.eq_iff_iff, Device.idleInflight_iff, Device.idleInflight_iff]
  simp only [h]

/-! ### The stages of a write -/

section Stages

variable (c : Bool) (x : Device) (q : Fin 4)

theorem Device.queue_txDisable_if : (if c then x.txDisable else x).queue q =
    { x.queue q with
      txActive := (x.queue q).txActive && !c
      inflight := if c then none else (x.queue q).inflight
      txCur := if c then (x.queue q).txBase else (x.queue q).txCur } := by
  cases c <;> simp

theorem Device.queue_rxDisable_if : (if c then x.rxDisable else x).queue q =
    { x.queue q with rxCur := if c then (x.queue q).rxBase else (x.queue q).rxCur } := by
  cases c <;> simp

theorem Device.queue_clearStats_if : (if c then x.clearStats else x).queue q = x.queue q := by
  cases c <;> simp

theorem Device.queue_txStart_if : (if c then x.txStart else x).queue q =
    { x.queue q with txActive := (x.queue q).txActive || (c && !(x.queue q).txQdis) } := by
  cases c <;> simp

theorem Device.queue_txHalt_if : (if c then x.txHalt else x).queue q =
    { x.queue q with txActive := !(c && x.idleInflight) && (x.queue q).txActive } := by
  cases c <;> cases h : x.idleInflight <;> simp [h]

theorem Device.idleInflight_txDisable_if :
    (if c then x.txDisable else x).idleInflight = (c || x.idleInflight) := by
  cases c with
  | false => rfl
  | true => exact (Device.idleInflight_iff _).mpr fun q => by simp

theorem Device.idleInflight_rxDisable_if : (if c then x.rxDisable else x).idleInflight = x.idleInflight :=
  Device.idleInflight_congr fun q => by rw [Device.queue_rxDisable_if]

theorem Device.idleInflight_clearStats_if : (if c then x.clearStats else x).idleInflight = x.idleInflight :=
  Device.idleInflight_congr fun q => by rw [Device.queue_clearStats_if]

theorem Device.idleInflight_txStart_if : (if c then x.txStart else x).idleInflight = x.idleInflight :=
  Device.idleInflight_congr fun q => by rw [Device.queue_txStart_if]

theorem Device.haltReq_txDisable_if : (if c then x.txDisable else x).haltReq = (x.haltReq && !c) := by
  cases c <;> simp [Device.txDisable]

theorem Device.haltReq_rxDisable_if : (if c then x.rxDisable else x).haltReq = x.haltReq := by
  cases c <;> rfl

theorem Device.haltReq_clearStats_if : (if c then x.clearStats else x).haltReq = x.haltReq := by
  cases c <;> rfl

theorem Device.haltReq_txStart_if : (if c then x.txStart else x).haltReq = (x.haltReq && !c) := by
  cases c <;> simp [Device.txStart]

theorem Device.haltReq_txHalt_if :
    (if c then x.txHalt else x).haltReq = ((c && !x.idleInflight) || x.haltReq) := by
  cases c <;> cases h : x.idleInflight <;> simp [Device.txHalt, h]

end Stages

/-! ### The whole write -/

/-- A queue after an NCR write (R191). -/
theorem Device.queue_writeNcr (x : Device) (v : Word) (q : Fin 4) :
    let txOff := ncrTe x.ncr && !ncrTe v
    let rxOff := ncrRe x.ncr && !ncrRe v
    (x.writeNcr v).queue q =
      { x.queue q with
        txActive := !(ncrTHalt v && (txOff || x.idleInflight))
          && (((x.queue q).txActive && !txOff) || ((ncrTStart v && ncrTe v) && !(x.queue q).txQdis))
        inflight := if txOff then none else (x.queue q).inflight
        txCur := if txOff then (x.queue q).txBase else (x.queue q).txCur
        rxCur := if rxOff then (x.queue q).rxBase else (x.queue q).rxCur } := by
  refine (Device.queue_txHalt_if _ _ q).trans ?_
  simp only [Device.queue_txStart_if, Device.queue_clearStats_if, Device.queue_rxDisable_if, Device.queue_txDisable_if,
    Device.idleInflight_txStart_if, Device.idleInflight_clearStats_if, Device.idleInflight_rxDisable_if,
    Device.idleInflight_txDisable_if]

/-- The pending halt after an NCR write (R191). -/
theorem Device.haltReq_writeNcr (x : Device) (v : Word) :
    let txOff := ncrTe x.ncr && !ncrTe v
    (x.writeNcr v).haltReq = ((ncrTHalt v && !(txOff || x.idleInflight))
      || (x.haltReq && !txOff && !(ncrTStart v && ncrTe v))) := by
  refine (Device.haltReq_txHalt_if _ _).trans ?_
  simp only [Device.haltReq_txStart_if, Device.haltReq_clearStats_if, Device.haltReq_rxDisable_if,
    Device.haltReq_txDisable_if, Device.idleInflight_txStart_if, Device.idleInflight_clearStats_if,
    Device.idleInflight_rxDisable_if, Device.idleInflight_txDisable_if]

/-- `y` is `x` but for its queues and its pending halt. -/
def Device.QueuesChanged (x y : Device) : Prop := y = { x with queues := y.queues, haltReq := y.haltReq }

namespace Device.QueuesChanged

theorem trans {x y z : Device} (h : x.QueuesChanged y) (k : y.QueuesChanged z) : x.QueuesChanged z :=
  Eq.trans k (congrArg (fun w => { w with queues := z.queues, haltReq := z.haltReq }) h)

theorem ite (c : Bool) {x y : Device} (h : x.QueuesChanged y) : x.QueuesChanged (if c then y else x) := by
  cases c with
  | false => rfl
  | true => exact h

theorem clearStats (c : Bool) {x y : Device} (h : x.QueuesChanged y) :
    (if c then x.clearStats else x).QueuesChanged (if c then y.clearStats else y) := by
  cases c with
  | false => exact h
  | true => exact congrArg Device.clearStats h

theorem txHalt (x : Device) : x.QueuesChanged x.txHalt := by
  unfold Device.txHalt
  split <;> rfl

end Device.QueuesChanged

/-- The rest of a device after an NCR write (R191): the statistics cleared on demand and the stored bits, and
nothing else. -/
theorem Device.writeNcr_rest (x : Device) (v : Word) : x.writeNcr v =
    { (if ncrClrStat v then x.clearStats else x) with
      ncr := v &&& ncrStored, queues := (x.writeNcr v).queues, haltReq := (x.writeNcr v).haltReq } := by
  have disabled := Device.QueuesChanged.ite (ncrTe x.ncr && !ncrTe v) (x := x) (y := x.txDisable) rfl
  have returned := disabled.trans (.ite (ncrRe x.ncr && !ncrRe v) (y := Device.rxDisable _) rfl)
  have cleared := returned.clearStats (ncrClrStat v)
  have started := cleared.trans (.ite (ncrTStart v && ncrTe v) (y := Device.txStart _) rfl)
  have halted := started.trans (.ite (ncrTHalt v) (.txHalt _))
  exact congrArg (fun w => { w with ncr := v &&& ncrStored }) halted

/-- Settles O18: the three parts of a write. (`ncrAccess` is the row of the opcode table.) -/
theorem ncrAccess_holds : Obligations.NcrAccess := by
  intro d s
  refine ⟨rfl, fun v reserved => if_pos reserved, fun v clear =>
    ⟨(s.dev d).writeNcr v, if_neg (not_not_intro clear), ?_⟩⟩
  exact ⟨(s.dev d).queue_writeNcr v, (s.dev d).haltReq_writeNcr v, (s.dev d).writeNcr_rest v⟩

end Sys2Proof.Machine
end

section
/-! PROOF. The registers of the MAC merge sublayer (40_registers R222-R226): what a legal write of MMSL_CONTROL does to
the verify state (45_mmsl R527, R528), and the accesses of a pMAC. -/

namespace Sys2Proof.Machine

/-! ### Verification -/

/-- A write of MMSL_CONTROL ends verification: PEN falls, or VDIS rises where it has begun (R527). -/
def Mmsl.verifyStops (m : Mmsl) (v : Word) : Bool :=
  (mmPen m.control && !mmPen v) || (!mmVdis m.control && mmVdis v && m.vstat != .idle)

/-- A write of MMSL_CONTROL begins verification: verified preemption begins, or RSTVER asks for it (R527, R528). -/
def Mmsl.verifyStarts (m : Mmsl) (v : Word) : Bool :=
  mmPen v && !mmVdis v && (!mmPen m.control || mmVdis m.control || mmRstVer v)

theorem Mmsl.restart_restart (m : Mmsl) (a : VState) : (m.restart a).restart a = m.restart a := by
  simp [Mmsl.restart, Mmsl.setVstat]

/-- A write begins, ends or leaves verification; it ends it only where it does not ask for verified preemption (R527,
R528). -/
theorem Mmsl.writeControl_eq (m : Mmsl) (v : Word) : m.writeControl v =
    let stored := { m with control := v &&& mmControlStored }
    if m.verifyStarts v then stored.restart .verifying
    else if m.verifyStops v then stored.restart .idle
    else stored := by
  cases verified : mmPen v && !mmVdis v with
  | false =>
    have starts : m.verifyStarts v = false := by rw [Mmsl.verifyStarts, verified, Bool.false_and]
    have rstVer : (mmRstVer v && mmPen v && !mmVdis v) = false := by rw [Bool.and_assoc, verified, Bool.and_false]
    simp [Mmsl.writeControl, Mmsl.verifyStops, starts, rstVer, verified, ite_or]
  | true =>
    obtain ⟨pen, vdis⟩ : mmPen v = true ∧ mmVdis v = false := by simpa using verified
    simp only [Mmsl.writeControl, Mmsl.verifyStarts, Mmsl.verifyStops, pen, vdis]
    cases !mmPen m.control || mmVdis m.control <;> cases mmRstVer v <;> simp [Mmsl.restart_restart]

/-- The write, field by field (R527, R528, R534). -/
theorem Mmsl.writeControl_fields (m : Mmsl) (v : Word) : m.writeControl v =
    let vstat := if m.verifyStarts v then .verifying else if m.verifyStops v then .idle else m.vstat
    { m with
      control := v &&& mmControlStored
      vstat := vstat
      vcount := if m.verifyStarts v || m.verifyStops v then 0 else m.vcount
      waiting := m.waiting && !m.verifyStarts v && !m.verifyStops v
      intStatus := if vstat = m.vstat then m.intStatus else m.intStatus ||| mmVchg } := by
  rw [m.writeControl_eq]
  cases m.verifyStarts v with
  | true => simp [Mmsl.restart, Mmsl.setVstat, eq_comm]
  | false =>
    cases m.verifyStops v with
    | true => simp [Mmsl.restart, Mmsl.setVstat, eq_comm]
    | false => simp

/-! ### Accesses of a pMAC -/

theorem mmslReg_of_hasMmsl {d : Dev} {off : Nat} {op : MmioOp} {s : State} {r : Result} (h : d.hasMmsl = true) :
    mmslReg off d op s r = r := if_pos h

theorem exec_mmslControl_read {d : Dev} (s : State) (h : d.hasMmsl = true) :
    exec (.mmslControl d .read) s = .next { s with rdata := (s.mmsl (macOf d)).control } := mmslReg_of_hasMmsl h

theorem exec_mmslControl_write {d : Dev} (s : State) (v : Word) (h : d.hasMmsl = true) :
    exec (.mmslControl d (.write v)) s =
      if v &&& mmControlRsvd ≠ 0 then .fault (.reservedBitWritten 0x800 (v &&& mmControlRsvd))
      else if mmVtime v = 0 ∨ 128 < mmVtime v then .fault .illegalVerifyTime
      else .next (s.setMmsl (macOf d) ((s.mmsl (macOf d)).writeControl v)) := mmslReg_of_hasMmsl h

/-- Settles O25: the checks in their order, then the legal write. -/
theorem mmslControlWrite : Obligations.MmslControlWrite := by
  intro d s present
  refine ⟨exec_mmslControl_read s present, fun v reserved => ?_, fun v clear illegal => ?_, fun v clear low high => ?_⟩
  · exact (exec_mmslControl_write s v present).trans (if_pos reserved)
  · exact (exec_mmslControl_write s v present).trans ((if_neg (not_not_intro clear)).trans (if_pos illegal))
  · have legal : ¬ (mmVtime v = 0 ∨ 128 < mmVtime v) := by omega
    have write := (exec_mmslControl_write s v present).trans ((if_neg (not_not_intro clear)).trans (if_neg legal))
    exact write.trans (by rw [Mmsl.writeControl_fields]; rfl)

theorem mmslCorRegs_access {d : Dev} (op : MmioOp) (s : State) (h : d.hasMmsl = true) : ∀ r ∈ mmslCorRegs,
    exec (r.1 d op) s = corReg (r.2.1 (s.mmsl (macOf d))) (s.setMmsl (macOf d) (r.2.2 (s.mmsl (macOf d)))) op s :=
  List.forall_iff_forall_mem.mp
    ⟨mmslReg_of_hasMmsl h, mmslReg_of_hasMmsl h, mmslReg_of_hasMmsl h, mmslReg_of_hasMmsl h, mmslReg_of_hasMmsl h⟩

/-- Settles O26: each register by its form, at a pMAC. -/
theorem mmslRegisters : Obligations.MmslRegisters := by
  intro d s present
  have access {off : Nat} {op : MmioOp} {r : Result} : mmslReg off d op s r = r := mmslReg_of_hasMmsl present
  have status : exec (.mmslStatus d .read) s =
      readAs (bitAt 2 (s.mmsl (macOf d)).pactive ||| (s.mmsl (macOf d)).vstat.code.setWidth 32) s := access
  exact ⟨status, fun _ => access,
    fun r hr => ⟨mmslCorRegs_access .read s present r hr, fun v => mmslCorRegs_access (.write v) s present r hr⟩,
    access, fun _ => access, access, fun _ => access, access, fun _ => access⟩

end Sys2Proof.Machine
end

section
/-! PROOF. The control, configuration and status registers whose writes are checked, cleared by ones or ignored
(40_registers R192-R194, R197, R202, R207, R209, R213, R215): their checks, TXGO, and each register by its form. -/

namespace Sys2Proof.Machine

/-! ### Checks -/

theorem modeChangeWhileEnabled_iff (x : Device) (v : Word) : modeChangeWhileEnabled x v = true ↔
    (ncrRe x.ncr ∧ v.getLsbD 28 ≠ x.dmacfg.getLsbD 28) ∨ (ncrTe x.ncr ∧ v.getLsbD 29 ≠ x.dmacfg.getLsbD 29) := by
  simp only [modeChangeWhileEnabled, dmacfgRxext, dmacfgTxext, Bool.or_eq_true, Bool.and_eq_true, bne_iff_ne]

/-- `JUMBO_LIMIT` is at least 10,240 (00_scope R8). -/
theorem jmlLegal_iff (v : Word) : jmlLegal v = true ↔ ¬ (field v 0 14 < 64 ∨ Config.jumboLimit < field v 0 14) := by
  have limit : 10240 ≤ Config.jumboLimit := Nat.le_add_right _ _
  simp only [jmlLegal, Bool.and_eq_true, Bool.or_eq_true, decide_eq_true_eq]
  unfold jmlLength
  omega

theorem exec_dmacfg_write (d : Dev) (v : Word) (s : State) : exec (.dmacfg d (.write v)) s =
    if v &&& dmacfgRsvd ≠ 0 then .fault (.reservedBitWritten 0x010 (v &&& dmacfgRsvd))
    else if v &&& dmacfgHw0 ≠ 0 then .refused .hardwiredBitWritten
    else if (ncrRe (s.dev d).ncr ∧ v.getLsbD 28 ≠ (s.dev d).dmacfg.getLsbD 28)
        ∨ (ncrTe (s.dev d).ncr ∧ v.getLsbD 29 ≠ (s.dev d).dmacfg.getLsbD 29) then .fault .modeChangeWhileEnabled
    else .next (s.setDev d { s.dev d with dmacfg := v }) := by
  simp only [← modeChangeWhileEnabled_iff]
  rfl

theorem exec_jml_write (d : Dev) (v : Word) (s : State) : exec (.jml d (.write v)) s =
    if v &&& jmlRsvd ≠ 0 then .fault (.reservedBitWritten 0x048 (v &&& jmlRsvd))
    else if field v 0 14 < 64 ∨ Config.jumboLimit < field v 0 14 then .fault .illegalJumboLength
    else .next (s.setDev d { s.dev d with jml := v }) := by
  refine if_congr Iff.rfl rfl ?_
  simp only [jmlLegal_iff, ite_not]
  rfl

/-- Settles O19: each register is its rule, the checks of DMACFG and JML by what they say. -/
theorem checkedRegisters : Obligations.CheckedRegisters := fun d s =>
  ⟨⟨rfl, fun _ => rfl⟩, ⟨rfl, fun v => exec_dmacfg_write d v s⟩, ⟨rfl, fun v => exec_jml_write d v s⟩,
    ⟨rfl, fun _ => rfl⟩, ⟨rfl, fun _ => rfl⟩⟩

/-! ### TSR, RSR and the registers without writes -/

/-- TXGO (41_tx_ring R301). -/
theorem Device.txGo_iff (x : Device) :
    x.txGo = true ↔ ∃ q, (x.queue q).txActive = true ∨ (x.queue q).inflight.isSome = true := by
  rw [Device.txGo, List.any_eq_true]
  simp only [Device.mem_queues_iff, Bool.or_eq_true, exists_exists_eq_and]

theorem exec_tsr_read (d : Dev) (s : State) : exec (.tsr d .read) s
    = .next { s with rdata := ((s.dev d).tsr &&& 0x1F7#32) ||| (if (s.dev d).txGo then 8#32 else 0) } := rfl

theorem ptpRegs_access (d : Dev) (op : MmioOp) (s : State) :
    ∀ r ∈ ptpRegs, exec (r.1 d op) s = roReg (r.2 (s.dev d).ptp) op s :=
  List.forall_iff_forall_mem.mp ⟨rfl, rfl, rfl, rfl, rfl, rfl, rfl, rfl⟩

/-- Settles O20. The read of TSR holds whatever TXGO is; the statement asks for it on one side of its equivalence. -/
theorem statusAndReadOnlyRegisters : Obligations.StatusAndReadOnlyRegisters := by
  intro d s
  have go := (s.dev d).txGo_iff
  have ptp := fun r hr => And.intro (ptpRegs_access d .read s r hr) fun v => ptpRegs_access d (.write v) s r hr
  refine ⟨⟨⟨(s.dev d).txGo, ?_⟩, fun _ => rfl, rfl, fun _ => rfl⟩, rfl, fun _ => rfl, ptp⟩
  simp only [exec_tsr_read, and_true]
  exact go

end Sys2Proof.Machine
end

section
/-! PROOF. The registers of a queue (40_registers R195, R196, R198-R201): the access of each queue is its register, and
each register by its form. -/

namespace Sys2Proof.Machine

theorem whenPresent_of_lt {n k off : Nat} {op : MmioOp} {s : State} {r : Result} (h : n < k) :
    whenPresent (decide (n < k)) off op s r = r := if_pos (decide_eq_true h)

/-! ### Queue pointers -/

section Pointers

variable (q : Fin 4) (d : Dev) (op : MmioOp) (s : State)

theorem exec_txPtrAccess : exec (txPtrAccess q d op) s = txPtrReg q (txPtrOff q) d op s :=
  match q with
  | 0 | 1 | 2 | 3 => rfl

theorem exec_rxPtrAccess : exec (rxPtrAccess q d op) s = rxPtrReg q (rxPtrOff q) d op s :=
  match q with
  | 0 | 1 | 2 | 3 => rfl

end Pointers

section Register

variable {d : Dev} {q : Fin 4} {off : Nat} {enabled : Bool} {value : Word} {store : Word → Queue → Queue} {s : State}

theorem queuePtrReg_read (h : q.val < s.cfg.nQueues d) :
    queuePtrReg d q off enabled value store .read s = .next { s with rdata := value } := whenPresent_of_lt h

theorem queuePtrReg_write (h : q.val < s.cfg.nQueues d) (v : Word) :
    queuePtrReg d q off enabled value store (.write v) s =
      if enabled then .fault .queuePointerWriteWhileEnabled
      else if q = 0 ∧ v.getLsbD 0 then .refused .queue0Disable
      else if v &&& queuePtrRsvd ≠ 0 then .fault (.reservedBitWritten off (v &&& queuePtrRsvd))
      else .next (s.setDev d ((s.dev d).setQueue q (store v ((s.dev d).queue q)))) := by
  refine (whenPresent_of_lt h).trans ?_
  simp only [Bool.and_eq_true, decide_eq_true_eq]
  rfl

end Register

/-- Settles O21: a pointer register by its form, for each direction. -/
theorem queuePointers : Obligations.QueuePointers := by
  intro d q s present
  simp only [exec_txPtrAccess, exec_rxPtrAccess]
  exact ⟨⟨queuePtrReg_read present, queuePtrReg_write present⟩, queuePtrReg_read present, queuePtrReg_write present⟩

/-! ### Interrupts -/

section Interrupts

variable {q : Fin 4} {d : Dev} {s : State} (h : q.val < s.cfg.nQueues d) (op : MmioOp)

include h

theorem exec_isrAccess : exec (isrAccess q d op) s = corReg ((s.dev d).queue q).isr
    (s.setDev d ((s.dev d).setQueue q { (s.dev d).queue q with isr := 0 })) op s :=
  match q with
  | 0 | 1 | 2 | 3 => whenPresent_of_lt h

theorem exec_ierAccess : exec (ierAccess q d op) s = cmdReg (fun v => s.setDev d ((s.dev d).setQueue q
    { (s.dev d).queue q with imr := ((s.dev d).queue q).imr &&& ~~~(v &&& isrImpl q) })) op s :=
  match q with
  | 0 | 1 | 2 | 3 => whenPresent_of_lt h

theorem exec_idrAccess : exec (idrAccess q d op) s = cmdReg (fun v => s.setDev d ((s.dev d).setQueue q
    { (s.dev d).queue q with imr := ((s.dev d).queue q).imr ||| (v &&& isrImpl q) })) op s :=
  match q with
  | 0 | 1 | 2 | 3 => whenPresent_of_lt h

theorem exec_imrAccess : exec (imrAccess q d op) s = roReg ((s.dev d).queue q).imr op s :=
  match q with
  | 0 | 1 | 2 | 3 => whenPresent_of_lt h

end Interrupts

/-- Settles O22: each register by its form. -/
theorem interruptRegisters : Obligations.InterruptRegisters := by
  intro d q s present
  exact ⟨exec_isrAccess present .read, fun v => exec_isrAccess present (.write v),
    exec_ierAccess present .read, fun v => exec_ierAccess present (.write v),
    exec_idrAccess present .read, fun v => exec_idrAccess present (.write v),
    exec_imrAccess present .read, fun v => exec_imrAccess present (.write v)⟩

end Sys2Proof.Machine
end

section
/-! PROOF. The statistics counters (40_registers R188; 46_statistics R561-R607): each counter by its form, the octet
pairs read as one count, and the events of the line. -/

namespace Sys2Proof.Machine

theorem exec_statAccess (c : Stat) (d : Dev) (op : MmioOp) (s : State) :
    exec (statAccess c d op) s = statReg c d op s := by
  cases c <;> rfl

/-! ### Octet pairs -/

/-- The two halves of an octet counter make the count (R561, R562). -/
theorem octets_toNat (v : BitVec 48) :
    v.toNat = ((v.extractLsb' 32 16).setWidth 32).toNat * 2 ^ 32 + (v.extractLsb' 0 32).toNat := by
  have hv := v.isLt
  simp only [BitVec.toNat_setWidth, BitVec.extractLsb'_toNat, Nat.shiftRight_eq_div_pow]
  omega

theorem octTx_pair (d : Dev) (s : State) :
    ∃ t u, exec (.octTxLo d .read) s = .next t ∧ exec (.octTxHi d .read) t = .next u
      ∧ (s.dev d).octTx.toNat = u.rdata.toNat * 2 ^ 32 + t.rdata.toNat := by
  refine ⟨_, _, rfl, rfl, ?_⟩
  simp only [State.modDev, State.dev_rdata, State.dev_setDev_self]
  exact octets_toNat _

theorem octRx_pair (d : Dev) (s : State) :
    ∃ t u, exec (.octRxLo d .read) s = .next t ∧ exec (.octRxHi d .read) t = .next u
      ∧ (s.dev d).octRx.toNat = u.rdata.toNat * 2 ^ 32 + t.rdata.toNat := by
  refine ⟨_, _, rfl, rfl, ?_⟩
  simp only [State.modDev, State.dev_rdata, State.dev_setDev_self]
  exact octets_toNat _

/-! ### Line events -/

/-- The counters a line event may count (R607). -/
theorem lineEventEnabled_iff (x : Device) (c : Stat) : lineEventEnabled x c = true ↔
    c ∈ [Stat.pauseTx, .pauseRx, .symbolErrorsRx, .alignmentErrorsRx, .autoFlushedRx]
      ∨ (c ∈ [Stat.deferredTx, .crsErrors] ∧ ncfgrFd x.ncfgr = false) := by
  cases c <;> simp [lineEventEnabled]

/-- Settles O24: the counters, the octet pairs and the line events. -/
theorem statisticsCounters : Obligations.StatisticsCounters := by
  refine ⟨fun c d s => ⟨exec_statAccess c d .read s, fun v => exec_statAccess c d (.write v) s⟩,
    fun d s => ⟨⟨rfl, rfl, rfl, rfl⟩, fun _ => ⟨rfl, rfl, rfl, rfl⟩, octTx_pair d s, octRx_pair d s⟩, fun d c s => ?_⟩
  simp only [← lineEventEnabled_iff]
  exact ⟨fun h => if_pos h, fun h => if_neg h⟩

end Sys2Proof.Machine
end

section
/-! PROOF. The plain RW registers (40_registers R203-R206, R208, R210-R212, R214, R216-R221): one rule for the form,
each row of the tables by it, and the registers of a family that the opcode table does not list (log 8). -/

namespace Sys2Proof.Machine

/-! ### The form of a plain register -/

/-- The plain RW register at offset `off`, as a register form (R181, R182). -/
def plainAccess (d : Dev) (off : Nat) (rsvd : Word) (get : Device → Word) (set : Word → Device → Device) (op : MmioOp)
    (s : State) : Result :=
  rwReg off rsvd (get (s.dev d)) (fun v => .next (s.setDev d (set v (s.dev d)))) op s

/-- The accesses of a register are those of its form. -/
def PlainReg.IsPlain (r : PlainReg) (d : Dev) (s : State) : Prop :=
  ∀ op, exec (r.access d op) s = plainAccess d r.off r.rsvd r.get r.set op s

theorem PlainReg.IsPlain.works {r : PlainReg} {d : Dev} {s : State} (h : r.IsPlain d s) : r.Works d s :=
  ⟨h .read, fun v => ⟨fun clear => (h (.write v)).trans (if_neg (not_not_intro clear)),
    fun reserved => (h (.write v)).trans (if_pos reserved)⟩⟩

theorem worksAt_of_plainAccess {d : Dev} {off : Nat} {rsvd : Word} {get : Device → Word}
    {set : Word → Device → Device} {s : State}
    (h : ∀ op, runDecoded (decodeAt d off op) s = plainAccess d off rsvd get set op s) : WorksAt d off rsvd get set s :=
  ⟨h .read, fun v => (h (.write v)).trans (ite_not _ _ _)⟩

/-! ### The tables -/

theorem plainRegs_isPlain (d : Dev) (s : State) : ∀ r ∈ plainRegs, r.IsPlain d s := by
  refine List.forall_iff_forall_mem.mp ?_
  repeat refine ⟨fun _ => rfl, ?_⟩
  exact fun _ => rfl

theorem rxBufRegs_isPlain (d : Dev) (s : State) :
    ∀ p ∈ rxBufRegs.zipIdx, p.2 + 1 < s.cfg.nQueues d → p.1.IsPlain d s :=
  List.forall_iff_forall_mem.mp
    ⟨fun h _ => whenPresent_of_lt h, fun h _ => whenPresent_of_lt h, fun h _ => whenPresent_of_lt h⟩

theorem screenerRegs_isPlain (d : Dev) (s : State) :
    ∀ p ∈ screenerRegs, p.2.1 < p.1 s.cfg → p.2.2.IsPlain d s := by
  refine List.forall_iff_forall_mem.mp ?_
  repeat refine ⟨fun h _ => whenPresent_of_lt h, ?_⟩
  exact fun h _ => whenPresent_of_lt h

/-! ### Registers the opcode table does not list -/

/-- No row of the opcode table has an offset of the wider configurations (log 8). -/
theorem rows_not_extra : ∀ r ∈ rows, extraOffset r.1 = false := by
  refine List.forall_iff_forall_mem.mp ?_
  repeat refine ⟨rfl, ?_⟩
  exact rfl

theorem lookupRow_extra {off : Nat} (h : extraOffset off = true) : lookupRow off rows = none := by
  cases row : lookupRow off rows with
  | none => rfl
  | some mk => exact absurd (rows_not_extra _ (mem_of_lookupRow row)) (by simp [h])

theorem runDecoded_extra {d : Dev} {off : Nat} (op : MmioOp) (s : State) (h : extraOffset off = true) :
    runDecoded (decodeAt d off op) s = accessUnlisted d off op s := by
  obtain ⟨aligned, -⟩ := (extraOffset_iff off).mp h
  rw [decodeAt, if_neg (not_not_intro aligned), lookupRow_extra h]
  rfl

/-- The register of an offset in a family. -/
theorem family_index {count : Nat} [NeZero count] (first : Nat) {stride : Nat} (h : 0 < stride) (n : Fin count) :
    Fin.ofNat count ((first + stride * n.val - first) / stride) = n := by
  rw [Nat.add_sub_cancel_left, Nat.mul_div_cancel_left _ h, Fin.ofNat_val_eq_self]

section Families

variable (d : Dev) (op : MmioOp) (s : State)

theorem runDecoded_t1 (n : Fin 16) : runDecoded (decodeAt d (0x500 + 4 * n.val) op) s = t1Reg n d op s := by
  by_cases listed : n.val < 4
  · match n, listed with
    | 0, _ | 1, _ | 2, _ | 3, _ => rfl
  · rw [runDecoded_extra op s ((extraOffset_iff _).mpr (by omega))]
    simp (disch := omega) only [accessUnlisted, if_pos, family_index]

theorem runDecoded_t2 (n : Fin 16) : runDecoded (decodeAt d (0x540 + 4 * n.val) op) s = t2Reg n d op s := by
  by_cases listed : n.val < 4
  · match n, listed with
    | 0, _ | 1, _ | 2, _ | 3, _ => rfl
  · rw [runDecoded_extra op s ((extraOffset_iff _).mpr (by omega))]
    simp (disch := omega) only [accessUnlisted, if_pos, if_neg, family_index]

theorem runDecoded_ethtype (n : Fin 8) : runDecoded (decodeAt d (0x6E0 + 4 * n.val) op) s = ethtypeReg n d op s := by
  by_cases listed : n.val < 4
  · match n, listed with
    | 0, _ | 1, _ | 2, _ | 3, _ => rfl
  · rw [runDecoded_extra op s ((extraOffset_iff _).mpr (by omega))]
    simp (disch := omega) only [accessUnlisted, if_pos, if_neg, family_index]

theorem runDecoded_cmpW0 (n : Fin 32) : runDecoded (decodeAt d (0x700 + 8 * n.val) op) s = cmpW0Reg n d op s := by
  by_cases listed : n.val < 12
  · match n, listed with
    | 0, _ | 1, _ | 2, _ | 3, _ | 4, _ | 5, _ | 6, _ | 7, _ | 8, _ | 9, _ | 10, _ | 11, _ => rfl
  · rw [runDecoded_extra op s ((extraOffset_iff _).mpr (by omega))]
    simp (disch := omega) only [accessUnlisted, if_pos, if_neg, family_index]

theorem runDecoded_cmpW1 (n : Fin 32) : runDecoded (decodeAt d (0x704 + 8 * n.val) op) s = cmpW1Reg n d op s := by
  by_cases listed : n.val < 12
  · match n, listed with
    | 0, _ | 1, _ | 2, _ | 3, _ | 4, _ | 5, _ | 6, _ | 7, _ | 8, _ | 9, _ | 10, _ | 11, _ => rfl
  · rw [runDecoded_extra op s ((extraOffset_iff _).mpr (by omega))]
    simp (disch := omega) only [accessUnlisted, if_pos, if_neg, family_index]

end Families

/-- Settles O23: the tables of the opcode table's registers, and the families at every offset they have. -/
theorem storedRegisters : Obligations.StoredRegisters := by
  refine ⟨fun r hr d s => (plainRegs_isPlain d s r hr).works,
    fun p hp d s present => (rxBufRegs_isPlain d s p hp present).works,
    fun p hp d s present => (screenerRegs_isPlain d s p hp present).works,
    fun d s => ⟨fun n h => ?_, fun n h => ?_, fun n h => ?_, fun n h => ⟨?_, ?_⟩⟩⟩
  · exact worksAt_of_plainAccess fun op => (runDecoded_t1 d op s n).trans (whenPresent_of_lt h)
  · exact worksAt_of_plainAccess fun op => (runDecoded_t2 d op s n).trans (whenPresent_of_lt h)
  · exact worksAt_of_plainAccess fun op => (runDecoded_ethtype d op s n).trans (whenPresent_of_lt h)
  · exact worksAt_of_plainAccess fun op => (runDecoded_cmpW0 d op s n).trans (whenPresent_of_lt h)
  · exact worksAt_of_plainAccess fun op => (runDecoded_cmpW1 d op s n).trans (whenPresent_of_lt h)

end Sys2Proof.Machine
end

section
/-! PROOF. The transmit engines stay in order (41_tx_ring R300, R303; 40_registers R191; 10_state R38, R66): what the order
asks of one queue, what it asks of the device, and one case for each update of Laws/Steps.lean that reaches either. -/

namespace Sys2Proof.Machine

/-! ### Queues in order -/

/-- What the order of the transmit engine asks of queue `q` alone, of a device with `n` queues whose TE is `te`. -/
structure Queue.TxOrderly (te : Bool) (n : Nat) (q : Fin 4) (y : Queue) : Prop where
  stopped  : te = false → y.txActive = false ∧ y.inflight = none
  queue0   : q = 0 → y.txQdis = false ∧ y.rxQdis = false
  disabled : y.txQdis = true → y.txActive = false ∧ y.inflight = none
  absent   : n ≤ q.val → y.txQdis = true ∧ y.rxQdis = true

namespace Queue.TxOrderly

variable {te : Bool} {n : Nat} {q : Fin 4} {y : Queue}

/-- A pointer write while TE is 0 keeps the order: the queue is present, idle, and not disabled if it is queue 0. -/
theorem setTxPtr (h : y.TxOrderly te n q) (v : Word) (present : q.val < n) (off : te = false)
    (queue0 : q = 0 → v.getLsbD 0 = false) : (y.setTxPtr v).TxOrderly te n q :=
  ⟨h.stopped, fun e => ⟨queue0 e, (h.queue0 e).2⟩, fun _ => h.stopped off, fun lacks => absurd present (by omega)⟩

theorem setRxPtr (h : y.TxOrderly te n q) (v : Word) (present : q.val < n) (queue0 : q = 0 → v.getLsbD 0 = false) :
    (y.setRxPtr v).TxOrderly te n q :=
  ⟨h.stopped, fun e => ⟨(h.queue0 e).1, queue0 e⟩, h.disabled, fun lacks => absurd present (by omega)⟩

theorem inactive (h : y.TxOrderly te n q) : { y with txActive := false }.TxOrderly te n q :=
  ⟨fun off => ⟨rfl, (h.stopped off).2⟩, h.queue0, fun dis => ⟨rfl, (h.disabled dis).2⟩, h.absent⟩

theorem finished (h : y.TxOrderly te n q) : { y with inflight := none }.TxOrderly te n q :=
  ⟨fun off => ⟨(h.stopped off).1, rfl⟩, h.queue0, fun dis => ⟨(h.disabled dis).1, rfl⟩, h.absent⟩

/-- An active queue may take a frame: TE is 1 and it is not disabled. -/
theorem fetched (h : y.TxOrderly te n q) (active : y.txActive = true) (cur : Word) (fr : TxFrame) :
    { y with txCur := cur, inflight := some fr }.TxOrderly te n q :=
  ⟨fun off => absurd (h.stopped off).1 (by simp [active]), h.queue0,
    fun dis => absurd (h.disabled dis).1 (by simp [active]), h.absent⟩

theorem reset (q : Fin 4) (h : 1 ≤ n) : (Queue.reset q).TxOrderly te n q where
  stopped _ := ⟨rfl, rfl⟩
  queue0 := by rintro rfl; exact ⟨rfl, rfl⟩
  disabled _ := ⟨rfl, rfl⟩
  absent lacks := by
    have other : q ≠ 0 := by
      rintro rfl
      exact absurd (h.trans lacks) (by decide)
    exact ⟨decide_eq_true other, decide_eq_true other⟩

end Queue.TxOrderly

/-! ### Devices in order -/

namespace Device.TxOrderly

variable {n : Nat} {x : Device}

theorem queue (h : x.TxOrderly n) (q : Fin 4) : (x.queue q).TxOrderly (ncrTe x.ncr) n q :=
  ⟨fun off => h.stopped off q, fun e => e ▸ h.queue0, h.disabled q, h.absent q⟩

/-- A device is in order where each queue is, at most one frame is in flight, and a halt waits for one. -/
theorem of_queues (queues : ∀ q, (x.queue q).TxOrderly (ncrTe x.ncr) n q)
    (single : ∀ p q, (x.queue p).inflight.isSome = true → (x.queue q).inflight.isSome = true → p = q)
    (halt : x.haltReq = true → ∃ q, (x.queue q).inflight.isSome = true) : x.TxOrderly n :=
  ⟨single, fun off q => (queues q).stopped off, halt, (queues 0).queue0 rfl, fun q => (queues q).disabled,
    fun q => (queues q).absent⟩

/-- A device without a frame in flight is in order where each queue is and no halt waits. -/
theorem of_idle (queues : ∀ q, (x.queue q).TxOrderly (ncrTe x.ncr) n q) (idle : ∀ q, (x.queue q).inflight = none)
    (halt : x.haltReq = false) : x.TxOrderly n :=
  of_queues queues (fun p _ hp => absurd hp (by simp [idle p])) fun h => absurd h (by simp [halt])

/-- A change of one queue that keeps the queue in order and what it has in flight. -/
theorem modQueue (h : x.TxOrderly n) (q : Fin 4) (f : Queue → Queue)
    (ordered : (f (x.queue q)).TxOrderly (ncrTe x.ncr) n q) (inflight : (f (x.queue q)).inflight = (x.queue q).inflight) :
    (x.modQueue q f).TxOrderly n := by
  have same (p : Fin 4) : ((x.modQueue q f).queue p).inflight = (x.queue p).inflight := by
    rw [Device.queue_modQueue]
    split
    · next e => rw [e, inflight]
    · rfl
  refine of_queues (fun p => ?_) (fun p r => ?_) fun halt => ?_
  · rw [Device.queue_modQueue]
    split
    · next e => exact e ▸ ordered
    · exact h.queue p
  · rw [same, same]; exact h.single p r
  · simp only [same]; exact h.halt halt

theorem irq (h : x.TxOrderly n) (q : Fin 4) (bits : Word) : (x.irq q bits).TxOrderly n :=
  h.modQueue q _ { h.queue q with } rfl

theorem irqDevice (h : x.TxOrderly n) (bits : Word) : (x.irqDevice bits).TxOrderly n := h.irq 0 bits

theorem reset (h : 1 ≤ n) : Device.reset.TxOrderly n :=
  of_idle (fun | 0 => .reset 0 h | 1 => .reset 1 h | 2 => .reset 2 h | 3 => .reset 3 h)
    (fun | 0 | 1 | 2 | 3 => rfl) rfl

theorem tsuTick (h : x.TxOrderly n) (rollover : Nat) : (x.tsuTick rollover).TxOrderly n := by
  have ticked : { x with tsu := (x.tsu.tick rollover).1 }.TxOrderly n := { h with }
  unfold Device.tsuTick
  simp only
  split
  · exact ticked.irqDevice _
  · exact ticked

theorem ptpRxEvent (h : x.TxOrderly n) (kind : Nat) : (x.ptpRxEvent kind).TxOrderly n := by
  have recorded (p : PtpRegs) : { x with ptp := p }.TxOrderly n := { h with }
  match kind with
  | 0 | 1 | 2 | 3 => exact (recorded _).irqDevice _
  | _ + 4 => exact h

theorem ptpTxEvent (h : x.TxOrderly n) (kind : Nat) : (x.ptpTxEvent kind).TxOrderly n := by
  have recorded (p : PtpRegs) : { x with ptp := p }.TxOrderly n := { h with }
  match kind with
  | 0 | 1 | 2 | 3 => exact (recorded _).irqDevice _
  | _ + 4 => exact h

/-- The fetch of a frame: no other is in flight (R300). -/
theorem fetch {c : Params} {d : Dev} {q : Fin 4} (h : x.TxOrderly n) (enabled : txFetchEnabled c d q x = true)
    (cur : Word) (fr : TxFrame) :
    (x.modQueue q fun y => { y with txCur := cur, inflight := some fr }).TxOrderly n := by
  simp only [txFetchEnabled, Bool.and_eq_true, Device.idleInflight_iff] at enabled
  obtain ⟨⟨-, active⟩, idle⟩ := enabled
  have only (p : Fin 4) : ((x.modQueue q fun y => { y with txCur := cur, inflight := some fr }).queue p).inflight.isSome
      = true → p = q := by
    rw [Device.queue_modQueue]
    split
    · exact fun _ => ‹_›
    · simp [idle p]
  refine of_queues (fun p => ?_) (fun p r hp hr => (only p hp).trans (only r hr).symm) fun _ => ⟨q, ?_⟩
  · rw [Device.queue_modQueue]
    split
    · next e => exact e ▸ (h.queue q).fetched active cur fr
    · exact h.queue p
  · rw [Device.queue_modQueue_self]; rfl

/-- The end of the frame in flight: nothing is in flight then, and a halt that waits takes hold (R332). -/
theorem finish {q : Fin 4} (h : x.TxOrderly n) (inflight : (x.queue q).inflight.isSome = true) :
    (x.modQueue q fun y => { y with inflight := none }).txHaltCheck.TxOrderly n := by
  have queues (p : Fin 4) : ((x.modQueue q fun y => { y with inflight := none }).queue p).TxOrderly (ncrTe x.ncr) n p := by
    rw [Device.queue_modQueue]
    split
    · next e => exact e ▸ (h.queue q).finished
    · exact h.queue p
  have idle (p : Fin 4) : ((x.modQueue q fun y => { y with inflight := none }).queue p).inflight = none := by
    rw [Device.queue_modQueue]
    split
    · rfl
    · next other => exact Option.not_isSome_iff_eq_none.mp fun hp => other (h.single p q hp inflight)
  unfold Device.txHaltCheck
  split
  · refine of_idle (fun p => ?_) (fun p => ?_) rfl
    · exact (Device.queue_mapQueues _ (fun y => { y with txActive := false }) p).symm ▸ (queues p).inactive
    · exact (congrArg Queue.inflight (Device.queue_mapQueues _ (fun y => { y with txActive := false }) p)).trans (idle p)
  · exact of_idle queues idle (Bool.eq_false_iff.mpr ‹_›)

theorem ncrTe_stored (v : Word) : ncrTe (v &&& ncrStored) = ncrTe v := by
  simp [ncrTe, ncrStored]

/-- An NCR write that clears TE leaves nothing active or in flight; any other starts only queues that are not disabled, and
leaves a halt pending only where a frame stays in flight (40_registers R191). -/
theorem writeNcr (h : x.TxOrderly n) (v : Word) : (x.writeNcr v).TxOrderly n := by
  have te : ncrTe (x.writeNcr v).ncr = ncrTe v := ncrTe_stored v
  have stays (q : Fin 4) (hq : ((x.writeNcr v).queue q).inflight.isSome = true) :
      (x.queue q).inflight.isSome = true := by
    rw [Device.queue_writeNcr] at hq
    split at hq
    · cases hq
    · exact hq
  refine of_queues (fun q => ⟨fun off => ?_, ?_, fun dis => ?_, ?_⟩) (fun p q hp hq => h.single p q (stays p hp) (stays q hq))
    fun halt => ?_
  · rw [te] at off
    rw [Device.queue_writeNcr]
    cases was : ncrTe x.ncr with
    | true => simp [off]
    | false => simp [off, h.stopped was q]
  · rw [Device.queue_writeNcr]; exact (h.queue q).queue0
  · rw [Device.queue_writeNcr] at dis ⊢
    obtain ⟨active, inflight⟩ := h.disabled q dis
    have dis' : (x.queue q).txQdis = true := dis
    simp [active, inflight, dis']
  · rw [Device.queue_writeNcr]; exact h.absent q
  · rw [Device.haltReq_writeNcr] at halt
    have pending : (ncrTe x.ncr && !ncrTe v) = false ∧ ∃ q, (x.queue q).inflight.isSome = true := by
      simp only [Bool.or_eq_true, Bool.and_eq_true, Bool.not_eq_true', Bool.or_eq_false_iff] at halt
      rcases halt with ⟨-, on, busy⟩ | ⟨⟨was, on⟩, -⟩
      · refine ⟨on, ?_⟩
        by_contra none
        refine absurd (x.idleInflight_iff.mpr fun q => ?_) (by simp [busy])
        exact Option.not_isSome_iff_eq_none.mp fun hq => none ⟨q, hq⟩
      · exact ⟨on, h.halt was⟩
    obtain ⟨on, q, hq⟩ := pending
    refine ⟨q, ?_⟩
    rw [Device.queue_writeNcr, on]
    exact hq

end Device.TxOrderly

/-- Every update of a device with a queue 0 keeps its transmit engine in order; those not named leave TE, the pending halt
and every queue as they were. -/
theorem Device.Update.txOrderly {c : Params} {d : Dev} {x y : Device} (u : Device.Update c d x y)
    (queues : 1 ≤ c.nQueues d) (h : x.TxOrderly (c.nQueues d)) : y.TxOrderly (c.nQueues d) := by
  induction u with
  | refl => exact h
  | trans _ _ first second => exact second (first h)
  | reset => exact .reset queues
  | ncr x v => exact h.writeNcr v
  | txPtr x q v present off queue0 => exact h.modQueue q _ ((h.queue q).setTxPtr v present off queue0) rfl
  | rxPtr x q v present off queue0 => exact h.modQueue q _ ((h.queue q).setRxPtr v present queue0) rfl
  | txInactive x q => exact h.modQueue q _ (h.queue q).inactive rfl
  | isrRead x q | ier x q | idr x q | rxCur x q => exact h.modQueue q _ { h.queue q with } rfl
  | irq x q bits => exact h.irq q bits
  | tick x => exact h.tsuTick _
  | ptpRx x k => exact h.ptpRxEvent k
  | ptpTx x k => exact h.ptpTxEvent k
  | txFetch x q cur fr enabled => exact h.fetch enabled cur fr
  | txFinish x q inflight => exact h.finish inflight
  | _ => exact { h with }

/-- Settles O13: each device goes through updates that keep its transmit engine in order. -/
theorem stepKeepsTxOrderly : Obligations.StepKeepsTxOrderly := by
  intro s t h hs d
  obtain ⟨-, change⟩ := step_change h
  obtain ⟨queues, ordered⟩ := hs d
  rw [change.cfg]
  exact ⟨queues, (change.dev d).txOrderly queues ordered⟩

end Sys2Proof.Machine
end

section
/-! PROOF. Which transmit steps are taken (41_tx_ring R300, R303, R310, R320, R322; 45_mmsl R538): each condition of a step
as the rules say it, and that a step without them is passed over (log 3). -/

namespace Sys2Proof.Machine

/-! ### The fetch -/

theorem txFetchEnabled_iff (c : Params) (d : Dev) (q : Fin 4) (x : Device) : txFetchEnabled c d q x = true ↔
    q.val < c.nQueues d ∧ ncrTe x.ncr = true ∧ (x.queue q).txActive = true ∧ ∀ p, (x.queue p).inflight = none := by
  simp only [txFetchEnabled, Bool.and_eq_true, decide_eq_true_eq, Device.idleInflight_iff, and_assoc]

theorem runTxFetch_of_not_enabled {d : Dev} {q : Fin 4} {s : State} (errs : List Nat)
    (h : txFetchEnabled s.cfg d q (s.dev d) = false) : runTxFetch d q errs s = .next s :=
  if_pos (by rw [h]; rfl)

/-! ### The end of a frame -/

theorem runTxDone_of_idle {d : Dev} {q : Fin 4} {s : State} (dr : TxDraws) (h : ((s.dev d).queue q).inflight = none) :
    runTxDone d q dr s = .next s := by
  simp only [runTxDone, h]

theorem runTxDone_of_not_inSet {d : Dev} {q : Fin 4} {dr : TxDraws} {s : State} {fr : TxFrame}
    (inflight : ((s.dev d).queue q).inflight = some fr)
    (h : txDrawsInSet dr s d fr (txImage (s.dev d) fr).frame.length = false) : runTxDone d q dr s = .next s := by
  simp only [runTxDone, inflight, h, Bool.not_false, if_true]

/-- `Outcomes(d)` (R322) and the outcomes of local loopback (R333): half duplex out of loopback has them all. -/
theorem txOutcomeInSet_iff (ncfgr ncr : Word) (o : TxOutcome) : txOutcomeInSet ncfgr ncr o = true ↔
    o = .und ∨ o = .ok 0 ∨ ((ncfgrFd ncfgr = false ∧ ncrLbLocal ncr = false)
      ∧ (o = .lco ∨ o = .rle ∨ ∃ c ≤ 15, o = .ok c)) := by
  cases o with
  | ok c =>
    cases full : ncfgrFd ncfgr <;> cases loop : ncrLbLocal ncr <;> simp [txOutcomeInSet, full, loop]
    omega
  | und | lco | rle | busErr => simp [txOutcomeInSet]

theorem rxDrawsInSet_iff (dr : RxDraws) (n : Nat) : rxDrawsInSet dr n = true ↔ ∀ r, dr.route = some r → r < n := by
  cases h : dr.route <;> simp [rxDrawsInSet, h]

/-- The draws of a `TX_DONE` lie in their sets (R322, R333; 45_mmsl R538; 43_classifier R420). -/
theorem txDrawsInSet_iff (dr : TxDraws) (s : State) (d : Dev) (fr : TxFrame) (n : Nat) : txDrawsInSet dr s d fr n = true ↔
    (fr.und = false → fr.buserr = false → txOutcomeInSet fr.conf.ncfgr fr.conf.ncr dr.outcome = true)
      ∧ (outcomeIsOk (txOutcome fr dr.outcome) = true → txClass s d = .preemptable →
        1 ≤ dr.frags ∧ dr.frags ≤ maxFrags n (mmAddFrag (s.mmsl (macOf d)).control))
      ∧ rxDrawsInSet dr.loop (s.cfg.nQueues d) = true := by
  have drawn : (fr.und || fr.buserr || txOutcomeInSet fr.conf.ncfgr fr.conf.ncr dr.outcome) = true ↔
      (fr.und = false → fr.buserr = false → txOutcomeInSet fr.conf.ncfgr fr.conf.ncr dr.outcome = true) := by
    cases fr.und <;> cases fr.buserr <;> simp
  have frags (b : Bool) : (!outcomeIsOk (txOutcome fr dr.outcome) || txClass s d == .express || b) = true ↔
      (outcomeIsOk (txOutcome fr dr.outcome) = true → txClass s d = .preemptable → b = true) := by
    cases outcomeIsOk (txOutcome fr dr.outcome) <;> cases txClass s d <;> simp
  rw [txDrawsInSet, Bool.and_eq_true, Bool.and_eq_true, drawn, frags, Bool.and_eq_true, decide_eq_true_eq,
    decide_eq_true_eq, and_assoc]

/-- Settles O29: each step where its conditions hold, and passed over where they do not. -/
theorem txStepsEnabled : Obligations.TxStepsEnabled := by
  refine ⟨fun d q errs s => ⟨txFetchEnabled_iff _ d q _, runTxFetch_of_not_enabled errs⟩,
    fun d q dr s => ⟨runTxDone_of_idle dr, fun fr inflight => ⟨?_, runTxDone_of_not_inSet inflight⟩⟩⟩
  rw [txDrawsInSet_iff, txOutcomeInSet_iff, rxDrawsInSet_iff]
  rfl

end Sys2Proof.Machine
end

section
/-! PROOF. The fetch of a frame (41_tx_ring R310-R316, R324): what a walk makes of one descriptor and of a chain of them,
before and behind the byte whose read fails, and each way a fetch ends. -/

namespace Sys2Proof.Machine

/-! ### The oracle by the numbers it names -/

theorem busErr_of_not_mem {errs : List Nat} {n : Nat} (h : n ∉ errs) (a len : Nat) :
    Oracle.busErr ⟨errs, []⟩ n a len = false := by
  simp [Oracle.busErr, h]

theorem busErr_of_mem {errs : List Nat} {n : Nat} (h : n ∈ errs) (a len : Nat) :
    Oracle.busErr ⟨errs, []⟩ n a len = true := by
  simp [Oracle.busErr, h]

theorem dmaRead32_of_not_mem {errs : List Nat} {n : Nat} (h : n ∉ errs) (m : Memory) (a : Word) :
    dmaRead32 ⟨errs, []⟩ m n a = some (Memory.read32 m a) := by
  simp [dmaRead32, busErr_of_not_mem h]

theorem dmaRead32_of_mem {errs : List Nat} {n : Nat} (h : n ∈ errs) (m : Memory) (a : Word) :
    dmaRead32 ⟨errs, []⟩ m n a = none := by
  simp [dmaRead32, busErr_of_mem h]

theorem anyBusErr_iff (errs : List Nat) (n a len : Nat) :
    Oracle.anyBusErr ⟨errs, []⟩ n a len = true ↔ ∃ j ∈ errs, n ≤ j ∧ j < n + len := by
  induction len generalizing n a with
  | zero => simp [Oracle.anyBusErr]
  | succ len ih =>
    have here : Oracle.busErr ⟨errs, []⟩ n a 1 = true ↔ n ∈ errs := by simp [Oracle.busErr]
    rw [Oracle.anyBusErr, Bool.or_eq_true, here, ih]
    constructor
    · rintro (h | ⟨j, h, low, high⟩)
      · exact ⟨n, h, by omega, by omega⟩
      · exact ⟨j, h, by omega, by omega⟩
    · rintro ⟨j, h, low, high⟩
      by_cases first : j = n
      · exact .inl (first ▸ h)
      · exact .inr ⟨j, h, by omega, by omega⟩

theorem dmaReadBytes_of_mem {errs : List Nat} {n k len : Nat} (h : k ∈ errs) (low : n ≤ k) (high : k < n + len)
    (m : Memory) (a : Nat) : dmaReadBytes ⟨errs, []⟩ m n a len = none :=
  if_pos ((anyBusErr_iff errs n a len).mpr ⟨k, h, low, high⟩)

theorem dmaReadBytes_of_clean {errs : List Nat} {n len : Nat} (clean : ∀ j ∈ errs, j < n ∨ n + len ≤ j) (m : Memory)
    (a : Nat) : dmaReadBytes ⟨errs, []⟩ m n a len = some (Memory.readBytes m a len) :=
  if_neg fun h => by
    obtain ⟨j, hj, low, high⟩ := (anyBusErr_iff errs n a len).mp h
    have := clean j hj
    omega

/-! ### The walk, taken apart -/

/-- The walk of a fetch from the ownership word of the descriptor at `a` on, with the descriptors `acc` behind it (R310,
R312, R316). -/
def txEnter (o : Oracle) (m : Memory) (base first : Word) (step fuel n : Nat) (a : Word) (acc : List (Word × Word))
    (data : List Byte) (be : Bool) : TxFetched :=
  match dmaRead32 o m n (a + 4) with
  | none => .descErr
  | some w1 =>
    if txUsed w1 then (if acc.isEmpty then .used else .frame acc data true be a)
    else txWalk o m base first step fuel (n + 1) a w1 acc data be

/-- The walk of a fetch behind the last of the descriptors `acc`, which has LAST or not, with the pointer at `b` (R310). -/
def txLeave (o : Oracle) (m : Memory) (base first : Word) (step fuel n : Nat) (last : Bool) (b : Word)
    (acc : List (Word × Word)) (data : List Byte) (be : Bool) : TxFetched :=
  if last then .frame acc data false be b
  else if b = first then .fault .txNoLastBuffer
  else txEnter o m base first step fuel n b acc data be

theorem txFetchFrame_eq (o : Oracle) (m : Memory) (base cur : Word) (step : Nat) :
    txFetchFrame o m base cur step = txEnter o m base cur step txWalkFuel 0 cur [] [] false := rfl

/-- The bytes a walk takes from `descs`: none behind a byte whose read failed (R324 (b)). -/
def txGot (m : Memory) (be : Bool) (descs : List (Word × Word)) : List Byte := if be then [] else txBytes m descs

/-- The accesses of a walk to one descriptor: its two words and, until a byte's read fails, its buffer (log 12). -/
def txAccesses (be : Bool) (p : Word × Word) : Nat := if be then 2 else txLen p.2 + 2

theorem txAccesses_false : txAccesses false = fun p => txLen p.2 + 2 := rfl

theorem txAccesses_true : txAccesses true = fun _ => 2 := rfl

section Walk

variable {errs : List Nat} {m : Memory} {base first : Word} {step : Nat}

theorem txEnter_of_mem {n : Nat} (h : n ∈ errs) (fuel : Nat) (a : Word) (acc : List (Word × Word)) (data : List Byte)
    (be : Bool) : txEnter ⟨errs, []⟩ m base first step fuel n a acc data be = .descErr := by
  simp only [txEnter, dmaRead32_of_mem h]

theorem txEnter_of_used {n : Nat} {a : Word} (h : n ∉ errs) (used : txUsed (Memory.read32 m (a + 4)) = true) (fuel : Nat)
    (acc : List (Word × Word)) (data : List Byte) (be : Bool) :
    txEnter ⟨errs, []⟩ m base first step fuel n a acc data be =
      if acc.isEmpty then .used else .frame acc data true be a := by
  simp only [txEnter, dmaRead32_of_not_mem h, used, if_true]

/-- A bus error on word w0 of a hardware-owned descriptor. -/
theorem txEnter_of_mem_succ {n : Nat} {a : Word} (own : n ∉ errs) (h : n + 1 ∈ errs)
    (unused : txUsed (Memory.read32 m (a + 4)) = false) (fuel : Nat) (acc : List (Word × Word)) (data : List Byte)
    (be : Bool) : txEnter ⟨errs, []⟩ m base first step (fuel + 1) n a acc data be = .descErr := by
  simp only [txEnter, dmaRead32_of_not_mem own, unused, Bool.false_eq_true, if_false, txWalk, dmaRead32_of_mem h]

/-- One hardware-owned descriptor, its words read: `got` are the bytes of its buffer, if they are read. -/
theorem txEnter_succ {n : Nat} {a b : Word} {w1 : Word} {be : Bool} (own : n ∉ errs) (addr : n + 1 ∉ errs)
    (word : w1 = Memory.read32 m (a + 4)) (unused : txUsed w1 = false)
    (fit : be = true ∨ (Memory.read32 m a).toNat + txLen w1 < 2 ^ 32)
    (next : nextDesc base (txWrap w1) step a = some b) (fuel : Nat) (acc : List (Word × Word)) (data : List Byte) :
    txEnter ⟨errs, []⟩ m base first step (fuel + 1) n a acc data be =
      let got := if be then none else dmaReadBytes ⟨errs, []⟩ m (n + 2) (Memory.read32 m a).toNat (txLen w1)
      txLeave ⟨errs, []⟩ m base first step fuel (n + txAccesses be (a, w1)) (txLast w1) b (acc ++ [(a, w1)])
        (data ++ got.getD []) got.isNone := by
  have inside : (!be && decide (2 ^ 32 ≤ (Memory.read32 m a).toNat + txLen w1)) = false := by
    rcases fit with rfl | fit
    · rfl
    · rw [decide_eq_false (by omega), Bool.and_false]
  have count : (if be then n + 1 + 1 else n + 1 + 1 + txLen w1) = n + txAccesses be (a, w1) := by
    cases be with
    | true => rfl
    | false => simp only [txAccesses, Bool.false_eq_true, if_false]; omega
  have behind : (acc ++ [(a, w1)]).isEmpty = false := by simp
  simp only [txEnter, txLeave, dmaRead32_of_not_mem own, dmaRead32_of_not_mem addr, ← word, unused, txWalk, inside, next,
    count, Bool.false_eq_true, if_false, behind] <;> rfl

/-- A descriptor whose accesses all succeed, or only those of its words behind a byte whose read failed. -/
theorem txEnter_pass {n : Nat} {a b : Word} {w1 : Word} {be : Bool} (word : w1 = Memory.read32 m (a + 4))
    (unused : txUsed w1 = false) (fit : be = true ∨ (Memory.read32 m a).toNat + txLen w1 < 2 ^ 32)
    (next : nextDesc base (txWrap w1) step a = some b)
    (clean : ∀ j ∈ errs, j < n ∨ n + txAccesses be (a, w1) ≤ j) (fuel : Nat) (acc : List (Word × Word))
    (data : List Byte) : txEnter ⟨errs, []⟩ m base first step (fuel + 1) n a acc data be =
      txLeave ⟨errs, []⟩ m base first step fuel (n + txAccesses be (a, w1)) (txLast w1) b (acc ++ [(a, w1)])
        (data ++ txGot m be [(a, w1)]) be := by
  have two : 2 ≤ txAccesses be (a, w1) := by cases be <;> simp [txAccesses]
  rw [txEnter_succ (fun h => by have := clean n h; omega) (fun h => by have := clean (n + 1) h; omega) word unused fit
    next]
  cases be with
  | true => simp [txGot]
  | false =>
    have read := dmaReadBytes_of_clean (n := n + 2) (len := txLen w1)
      (fun j hj => by have := clean j hj; simp only [txAccesses, Bool.false_eq_true, if_false] at this; omega) m
      (Memory.read32 m a).toNat
    simp [read, txGot, txBytes]

/-- A walk passes a chain of descriptors, from the first ownership word to what follows the last. -/
theorem txEnter_chain {be : Bool} (fuel : Nat) (descs : List (Word × Word)) (n : Nat) (a b : Word)
    (acc : List (Word × Word)) (data : List Byte) (chain : TxChain m base first step a descs b) (some_ : descs ≠ [])
    (fit : be = true ∨ TxBuffersFit m descs)
    (clean : ∀ j ∈ errs, j < n ∨ n + (descs.map (txAccesses be)).sum ≤ j) :
    txEnter ⟨errs, []⟩ m base first step (fuel + descs.length) n a acc data be =
      txLeave ⟨errs, []⟩ m base first step fuel (n + (descs.map (txAccesses be)).sum)
        (descs.getLast?.any fun p => txLast p.2) b (acc ++ descs) (data ++ txGot m be descs) be := by
  induction descs generalizing n a acc data with
  | nil => exact absurd rfl some_
  | cons p rest ih =>
    obtain ⟨pa, w⟩ := p
    obtain ⟨rfl, word, unused, c, next, more, chain'⟩ := chain
    simp only [List.map_cons, List.sum_cons] at clean
    have head := txEnter_pass (first := first) (n := n) (a := pa) (w1 := w) word unused (fit.imp id fun h => h (pa, w) (by simp)) next
      (fun j hj => by have := clean j hj; omega) (fuel + rest.length) acc data
    rw [List.length_cons, ← Nat.add_assoc, head]
    cases rest with
    | nil =>
      obtain rfl : c = b := chain'
      simp
    | cons p' rest' =>
      obtain ⟨last, round⟩ := more (by simp)
      have goes := ih (n + txAccesses be (pa, w)) c (acc ++ [(pa, w)]) (data ++ txGot m be [(pa, w)]) chain' (by simp)
        (fit.imp id fun h r hr => h r (by simp [hr])) (fun j hj => by have := clean j hj; omega)
      have bytes : txGot m be [(pa, w)] ++ txGot m be (p' :: rest') = txGot m be ((pa, w) :: p' :: rest') := by
        cases be <;> simp [txGot, txBytes]
      rw [txLeave, last, if_neg (by simp), if_neg round, goes]
      simp only [List.append_assoc, bytes, List.map_cons, List.sum_cons, List.getLast?_cons_cons, List.singleton_append,
        Nat.add_assoc]

/-- A chain behind another: where the first ends the second begins, and the walk did not end between them. -/
theorem TxChain.split {xs ys : List (Word × Word)} {a b : Word} (h : TxChain m base first step a (xs ++ ys) b)
    (more : ys ≠ []) : ∃ c, TxChain m base first step a xs c ∧ TxChain m base first step c ys b
      ∧ (∀ p ∈ xs, txLast p.2 = false) ∧ (xs = [] ∨ c ≠ first) := by
  induction xs generalizing a with
  | nil => exact ⟨a, rfl, h, by simp, .inl rfl⟩
  | cons p rest ih =>
    obtain ⟨here, word, unused, c, next, goes, chain⟩ := h
    obtain ⟨e, chain', tail, noLast, round⟩ := ih chain
    obtain ⟨last, pass⟩ := goes (by simp [more])
    refine ⟨e, ⟨here, word, unused, c, next, fun _ => ⟨last, pass⟩, chain'⟩, tail, ?_, .inr ?_⟩
    · rintro r hr
      rcases List.mem_cons.mp hr with rfl | hr
      · exact last
      · exact noLast r hr
    · rcases round with rfl | round
      · obtain rfl : c = e := chain'
        exact pass
      · exact round

end Walk

/-! ### How a fetch begins -/

section Fetch

variable {errs : List Nat} {m : Memory} {base cur : Word} {step : Nat}

/-- A fetch that passes a whole chain. -/
theorem txFetchFrame_chain {descs : List (Word × Word)} {b : Word}
    (chain : TxChain m base cur step cur descs b) (some_ : descs ≠ []) (fit : TxBuffersFit m descs)
    (short : descs.length ≤ 2 ^ 29) (clean : ∀ j ∈ errs, (descs.map fun p => txLen p.2 + 2).sum ≤ j) :
    txFetchFrame ⟨errs, []⟩ m base cur step =
      txLeave ⟨errs, []⟩ m base cur step (2 ^ 29 - descs.length) (descs.map fun p => txLen p.2 + 2).sum
        (descs.getLast?.any fun p => txLast p.2) b descs (txBytes m descs) false := by
  have fuel : txWalkFuel = 2 ^ 29 - descs.length + descs.length := by rw [txWalkFuel]; omega
  have walk := txEnter_chain (be := false) (errs := errs) (2 ^ 29 - descs.length) descs 0 cur b [] [] chain some_
    (.inr fit) fun j hj => .inr (by simpa only [txAccesses_false, Nat.zero_add] using clean j hj)
  rw [txFetchFrame_eq, fuel, walk, txAccesses_false, Nat.zero_add]
  rfl

/-- A fetch that passes the descriptors `before`, none of them the last of the frame, comes to the one behind them. -/
theorem txFetchFrame_before {before : List (Word × Word)} {a : Word} (chain : TxChain m base cur step cur before a)
    (last : ∀ p ∈ before, txLast p.2 = false) (fit : TxBuffersFit m before) (short : before.length < 2 ^ 29)
    (clean : ∀ j ∈ errs, (before.map fun p => txLen p.2 + 2).sum ≤ j) (round : before = [] ∨ a ≠ cur) :
    txFetchFrame ⟨errs, []⟩ m base cur step =
      txEnter ⟨errs, []⟩ m base cur step (2 ^ 29 - before.length) (before.map fun p => txLen p.2 + 2).sum a before
        (txBytes m before) false := by
  by_cases none_ : before = []
  · subst none_
    obtain rfl : cur = a := chain
    exact txFetchFrame_eq _ _ _ _ _
  · have noLast : (before.getLast?.any fun p => txLast p.2) = false := by
      rw [Option.any_eq_false]
      exact fun p hp => by simp [last p (List.mem_of_getLast? hp)]
    rw [txFetchFrame_chain chain none_ fit short.le clean, txLeave, noLast, if_neg (by simp),
      if_neg (round.resolve_left none_)]

/-- A fetch with a bus error on a byte of the buffer of `h` goes on to what follows the last descriptor of a chain. -/
theorem txFetchFrame_marked {before after : List (Word × Word)} {h : Word × Word} {b : Word} {k n : Nat}
    (hn : (before.map fun p => txLen p.2 + 2).sum = n)
    (chain : TxChain m base cur step cur (before ++ h :: after) b) (fitBefore : TxBuffersFit m before)
    (fit : TxBuffersFit m [h]) (short : (before ++ h :: after).length < 2 ^ 29) (failing : k ∈ errs)
    (firstFails : ∀ j ∈ errs, k ≤ j) (low : n + 2 ≤ k) (high : k < n + 2 + txLen h.2)
    (clean : ∀ j ∈ errs, j < n + 2 + txLen h.2 ∨ n + 2 + txLen h.2 + 2 * after.length ≤ j) :
    txFetchFrame ⟨errs, []⟩ m base cur step =
      txLeave ⟨errs, []⟩ m base cur step (2 ^ 29 - (before ++ h :: after).length)
        (n + 2 + txLen h.2 + 2 * after.length) ((before ++ h :: after).getLast?.any fun p => txLast p.2) b
        (before ++ h :: after) (txBytes m before) true := by
  subst hn
  obtain ⟨c, chainBefore, ⟨rfl, word, unused, e, next, more, chainAfter⟩, last, round⟩ := chain.split (by simp)
  rw [List.length_append, List.length_cons] at short ⊢
  have fuel : 2 ^ 29 - before.length = 2 ^ 29 - (before.length + (after.length + 1)) + after.length + 1 := by omega
  have here := txEnter_succ (first := cur) (be := false) (errs := errs) (n := (before.map fun p => txLen p.2 + 2).sum)
    (fun hj => by have := firstFails _ hj; omega) (fun hj => by have := firstFails _ hj; omega) word unused
    (.inr (fit h (by simp))) next (2 ^ 29 - (before.length + (after.length + 1)) + after.length) before (txBytes m before)
  rw [txFetchFrame_before chainBefore last fitBefore (by omega) (fun j hj => by have := firstFails j hj; omega) round,
    fuel, here]
  simp only [Bool.false_eq_true, if_false, dmaReadBytes_of_mem failing low high, Option.getD_none, Option.isNone_none,
    List.append_nil, txAccesses]
  cases after with
  | nil =>
    obtain rfl : e = b := chainAfter
    simp [Nat.add_assoc, Nat.add_comm 2]
  | cons p rest =>
    obtain ⟨noLast, pass⟩ := more (by simp)
    have count : ((p :: rest).map (txAccesses true)).sum = 2 * (p :: rest).length := by
      rw [txAccesses_true, List.map_const', List.sum_replicate_nat, Nat.mul_comm]
    have goes := txEnter_chain (be := true) (errs := errs) (2 ^ 29 - (before.length + ((p :: rest).length + 1))) (p :: rest)
      ((before.map fun p => txLen p.2 + 2).sum + (txLen h.2 + 2)) e b (before ++ [h]) (txBytes m before) chainAfter
      (by simp) (.inl rfl) (fun j hj => by rw [count]; have := clean j hj; omega)
    have tail : (before ++ h :: p :: rest).getLast? = (p :: rest).getLast? := by
      rw [List.getLast?_append_of_ne_nil _ (by simp), List.getLast?_cons_cons]
    have place : (before.map fun p => txLen p.2 + 2).sum + (txLen h.2 + 2) + 2 * (p :: rest).length
        = (before.map fun p => txLen p.2 + 2).sum + 2 + txLen h.2 + 2 * (p :: rest).length := by omega
    rw [txLeave, noLast, if_neg (by simp), if_neg pass, goes, count, place, tail, List.append_assoc]
    simp only [txGot, if_true, List.append_nil, List.singleton_append]

end Fetch

/-! ### How a fetch ends -/

section Ends

variable {d : Dev} {q : Fin 4} {errs : List Nat} {s : State}

theorem Device.txUsed_eq (x : Device) (q : Fin 4) : x.txUsed q = { x with tsr := x.tsr ||| 1#32 }.setQueue q
    { x.queue q with isr := (x.queue q).isr ||| 8#32, txActive := false } := by
  simp [Device.txUsed, Device.irq, Device.modQueue, Device.setTsr, Device.setQueue, Device.queue, tsrUbr, isrTxUbr]

theorem Device.txDescError_eq (x : Device) (q : Fin 4) : x.txDescError q =
    { x with tsr := x.tsr ||| 0x100#32 }.setQueue q
      { x.queue q with isr := (x.queue q).isr ||| 0x800#32, txActive := false } := by
  simp [Device.txDescError, Device.irq, Device.modQueue, Device.setTsr, Device.setQueue, Device.queue, tsrHresp, isrHresp]

/-- A fetch with no memory missing, by the walk it makes. -/
theorem runTxFetch_eq (holes : s.cfg.holes = []) (enabled : txFetchEnabled s.cfg d q (s.dev d) = true) {r : TxFetched}
    (walk : txFetchFrame ⟨errs, []⟩ s.mem ((s.dev d).queue q).txBase ((s.dev d).queue q).txCur
      (stride (dmacfgTxext (s.dev d).dmacfg)) = r) :
    runTxFetch d q errs s =
      match r with
      | .fault f => .fault f
      | .used => .next (s.setDev d ((s.dev d).txUsed q))
      | .descErr => .next (s.setDev d ((s.dev d).txDescError q))
      | .frame descs data und buserr cur =>
        let nocrc := descs.head?.any fun p => txNoCrc p.2
        if (und = false ∧ buserr = false) ∧ data.length = 0 then .fault .txZeroLength
        else if (und = false ∧ buserr = false) ∧ maxTx (s.dev d).ncfgr (s.dev d).jml < txWireLength nocrc data.length then
          .fault .txFrameTooLong
        else .next (s.setDev d ((s.dev d).setQueue q { (s.dev d).queue q with
          txCur := cur, inflight := some ⟨descs, data, nocrc, und, buserr, (s.dev d).txConf⟩ })) := by
  simp only [runTxFetch, enabled, Bool.not_true, Bool.false_eq_true, if_false, holes, walk]
  cases r with
  | frame descs data und buserr cur =>
    simp only [Bool.and_eq_true, Bool.not_eq_true', List.isEmpty_iff_length_eq_zero, decide_eq_true_eq]
    cases descs <;> rfl
  | used | descErr | fault => rfl

theorem runTxFetch_descErr (holes : s.cfg.holes = []) (enabled : txFetchEnabled s.cfg d q (s.dev d) = true)
    (walk : txFetchFrame ⟨errs, []⟩ s.mem ((s.dev d).queue q).txBase ((s.dev d).queue q).txCur
      (stride (dmacfgTxext (s.dev d).dmacfg)) = .descErr) :
    runInput (.txFetch d q errs) s = .next (s.setDev d ({ s.dev d with tsr := (s.dev d).tsr ||| 0x100#32 }.setQueue q
      { (s.dev d).queue q with isr := ((s.dev d).queue q).isr ||| 0x800#32, txActive := false })) :=
  (runTxFetch_eq holes enabled walk).trans (by rw [Device.txDescError_eq])

end Ends

/-- Settles O30: the walk passes the whole chain to its last descriptor, and the lengths decide (R313). -/
theorem txFetchFrame_holds : Obligations.TxFetchFrame := by
  intro d q errs s h rest a' noErr enabled x cur chain fit last short data wire limit
  obtain ⟨rfl, holes⟩ := noErr
  have lastDesc : ((h :: rest).getLast?.any fun p => txLast p.2) = true := by
    obtain ⟨z, hz⟩ : ∃ z, (h :: rest).getLast? = some z := ⟨_, List.getLast?_eq_some_getLast (by simp)⟩
    rw [hz]
    exact last z (by rw [hz]; rfl)
  have walk := txFetchFrame_chain (errs := []) chain (by simp) fit (by rw [List.length_cons]; omega) (by simp)
  rw [txLeave, lastDesc, if_pos rfl] at walk
  refine (runTxFetch_eq holes enabled walk).trans ?_
  simp only [true_and, and_self]
  rfl

/-- Settles O31: the descriptor at which the fetch ends is the first, one behind a chain, or the first again. -/
theorem txFetchStops : Obligations.TxFetchStops := by
  intro d q errs s noErr enabled x cur
  obtain ⟨rfl, holes⟩ := noErr
  refine ⟨fun used => ?_, fun h rest a' chain fit last short => ?_⟩
  · have walk := txEnter_of_used (errs := []) (base := (x.queue q).txBase) (first := cur)
      (step := stride (dmacfgTxext x.dmacfg)) (n := 0) (by simp) used txWalkFuel [] [] false
    rw [← txFetchFrame_eq, if_pos (by rfl)] at walk
    exact (runTxFetch_eq holes enabled walk).trans (by rw [← Device.txUsed_eq])
  · have noLast : ((h :: rest).getLast?.any fun p => txLast p.2) = false := by
      rw [Option.any_eq_false]
      exact fun z hz => by simp [last z hz]
    have walk := txFetchFrame_chain (errs := []) chain (by simp) fit (by rw [List.length_cons]; omega) (by simp)
    rw [txLeave, noLast, if_neg (by simp)] at walk
    refine ⟨fun round used => ?_, fun round => ?_⟩
    · rw [if_neg round, txEnter_of_used (by simp) used] at walk
      exact runTxFetch_eq holes enabled walk
    · rw [if_pos round] at walk
      exact runTxFetch_eq holes enabled walk

/-- Settles O32: the first access that fails is a descriptor's word, or a byte behind which the descriptors go on. -/
theorem txFetchBusErrors : Obligations.TxFetchBusErrors := by
  intro d q errs s before a k holes failing firstFails enabled x cur chain n used stopped chainBefore last fit short
  refine ⟨fun round which => ?_, fun h after a' => ?_⟩
  · have clean : ∀ j ∈ errs, n ≤ j := fun j hj => by
      have := firstFails j hj
      omega
    have walk := txFetchFrame_before chainBefore last fit short clean round
    refine runTxFetch_descErr holes enabled (walk.trans ?_)
    rcases which with rfl | ⟨rfl, unused⟩
    · exact txEnter_of_mem failing _ _ _ _ _
    · obtain ⟨fuel, hfuel⟩ : ∃ fuel, 2 ^ 29 - before.length = fuel + 1 := ⟨2 ^ 29 - before.length - 1, by omega⟩
      rw [hfuel]
      exact txEnter_of_mem_succ (fun hn => by have := firstFails n hn; omega) failing unused _ _ _ _
  · intro descs stop chainAll fitHere shortAll low high clean marked
    have walk := txFetchFrame_marked rfl chainAll fit fitHere shortAll failing firstFails low high clean
    rw [txLeave] at walk
    split
    · next isLast =>
      rw [if_pos isLast] at walk
      exact runTxFetch_eq holes enabled walk
    · next notLast =>
      rw [if_neg notLast] at walk
      split
      · next round =>
        rw [if_pos round] at walk
        exact runTxFetch_eq holes enabled walk
      · next round =>
        rw [if_neg round] at walk
        refine ⟨fun which => runTxFetch_descErr holes enabled (walk.trans ?_), fun own usedNext => ?_⟩
        · by_cases own : stop ∈ errs
          · exact txEnter_of_mem own _ _ _ _ _
          · obtain ⟨unused, second⟩ := which.resolve_left own
            obtain ⟨fuel, hfuel⟩ : ∃ fuel, 2 ^ 29 - descs.length = fuel + 1 := ⟨2 ^ 29 - descs.length - 1, by omega⟩
            rw [hfuel]
            exact txEnter_of_mem_succ own second unused _ _ _ _
        · rw [txEnter_of_used own usedNext] at walk
          exact runTxFetch_eq holes enabled (walk.trans (if_neg (by simp)))

end Sys2Proof.Machine
end

section
/-! PROOF. The end of a frame in flight (41_tx_ring R320-R332): what each part of the step makes of the device, the words
it writes back, and the line behind it. -/

namespace Sys2Proof.Machine

/-! ### Counters -/

/-- The counters in the order of their places. -/
def statOrder : List Stat :=
  [.framesTx, .bcastTx, .mcastTx, .pauseTx, .frames64Tx, .frames65to127Tx, .frames128to255Tx, .frames256to511Tx,
   .frames512to1023Tx, .frames1024to1518Tx, .frames1519Tx, .txUnderruns, .singleCollisions, .multipleCollisions,
   .excessiveCollisions, .lateCollisions, .deferredTx, .crsErrors, .framesRx, .bcastRx, .mcastRx, .pauseRx, .frames64Rx,
   .frames65to127Rx, .frames128to255Rx, .frames256to511Rx, .frames512to1023Rx, .frames1024to1518Rx, .frames1519Rx,
   .undersizeRx, .oversizeRx, .jabbersRx, .fcsErrorsRx, .lengthErrorsRx, .symbolErrorsRx, .alignmentErrorsRx,
   .resourceErrorsRx, .overrunsRx, .ipChecksumErrorsRx, .tcpChecksumErrorsRx, .udpChecksumErrorsRx, .autoFlushedRx]

theorem statOrder_statIndex (c : Stat) : statOrder[(statIndex c).val]? = some c := by cases c <;> rfl

theorem statIndex_injective : Function.Injective statIndex := fun c k h =>
  Option.some_injective _ ((statOrder_statIndex c).symm.trans (h ▸ statOrder_statIndex k))

theorem Device.stats_count (x : Device) (c k : Stat) : (x.count c).stats[statIndex k] =
    if k = c then bump x.stats[statIndex k] 1 else x.stats[statIndex k] := by
  by_cases same : k = c
  · subst same
    simp [Device.count]
  · have places : (statIndex c).val ≠ (statIndex k).val := fun h => same (statIndex_injective (Fin.ext h)).symm
    simp [Device.count, same, places]

/-- Counters counted in a list without repetition count one each. -/
theorem Device.stats_countAll (l : List Stat) (once : l.Nodup) (x : Device) (k : Stat) :
    (x.countAll l).stats[statIndex k] = if k ∈ l then bump x.stats[statIndex k] 1 else x.stats[statIndex k] := by
  induction l generalizing x with
  | nil => simp [Device.countAll]
  | cons c rest ih =>
    obtain ⟨fresh, once⟩ := List.nodup_cons.mp once
    rw [Device.countAll, ih once, Device.stats_count]
    by_cases same : k = c
    · subst same
      simp [fresh]
    · simp [same]

theorem mem_destStats (b m k : Stat) (f : List Byte) : k ∈ destStats b m f ↔
    (k = b ∧ isBroadcast f = true) ∨ (k = m ∧ isBroadcast f = false ∧ isGroup f = true) := by
  unfold destStats
  cases isBroadcast f <;> cases isGroup f <;> simp

theorem eq_txSizeStat_iff (n : Nat) (k : Stat) : k = txSizeStat n ↔
    (k = .frames64Tx ∧ n ≤ 64) ∨ (k = .frames65to127Tx ∧ 65 ≤ n ∧ n ≤ 127)
      ∨ (k = .frames128to255Tx ∧ 128 ≤ n ∧ n ≤ 255) ∨ (k = .frames256to511Tx ∧ 256 ≤ n ∧ n ≤ 511)
      ∨ (k = .frames512to1023Tx ∧ 512 ≤ n ∧ n ≤ 1023) ∨ (k = .frames1024to1518Tx ∧ 1024 ≤ n ∧ n ≤ 1518)
      ∨ (k = .frames1519Tx ∧ 1519 ≤ n) := by
  unfold txSizeStat
  split_ifs <;> grind

/-- The counters of a transmitted frame are those of the rule (R331). -/
theorem mem_txOkStats (c : Nat) (f : List Byte) (k : Stat) : k ∈ txOkStats c f ↔ txCounted c f k = true := by
  have collisions : k ∈ (if c = 1 then [Stat.singleCollisions] else if 2 ≤ c then [.multipleCollisions] else []) ↔
      (k = .singleCollisions ∧ c = 1) ∨ (k = .multipleCollisions ∧ 2 ≤ c) := by
    split_ifs <;> grind
  simp only [txOkStats, List.cons_append, List.mem_cons, List.mem_append, mem_destStats, List.not_mem_nil, or_false,
    eq_txSizeStat_iff, collisions]
  cases k <;> simp [txCounted]

theorem nodup_txOkStats (c : Nat) (f : List Byte) : (txOkStats c f).Nodup := by
  have size (k : Stat) (h : k ∈ [Stat.framesTx, .bcastTx, .mcastTx, .singleCollisions, .multipleCollisions]) :
      k ≠ txSizeStat f.length := by
    rw [Ne, eq_txSizeStat_iff]
    simp only [List.mem_cons, List.not_mem_nil, or_false] at h
    rcases h with rfl | rfl | rfl | rfl | rfl <;> simp
  simp only [List.mem_cons, List.not_mem_nil, or_false, forall_eq_or_imp, forall_eq, Ne] at size
  obtain ⟨h1, h2, h3, h4, h5⟩ := size
  unfold txOkStats destStats
  split_ifs <;> simp [h1, h2, h3, eq_comm, h4, h5]

theorem Device.stats_txStatistics (x : Device) (o : TxOutcome) (f : List Byte) (k : Stat) :
    (x.txStatistics o f).stats[statIndex k] =
      if outcomeCounted f o k then bump x.stats[statIndex k] 1 else x.stats[statIndex k] := by
  cases o with
  | ok c =>
    refine (Device.stats_countAll _ (nodup_txOkStats c f) _ k).trans ?_
    simp only [mem_txOkStats]
    rfl
  | und | lco | rle =>
    simp only [outcomeCounted, decide_eq_true_eq]
    exact Device.stats_count x _ k
  | busErr => rfl

/-! ### The parts of the step -/

theorem Device.setQueue_queue (x : Device) (q : Fin 4) : x.setQueue q (x.queue q) = x := by
  simp [Device.setQueue, Device.queue]

theorem Device.irq_zero (x : Device) (q : Fin 4) : x.irq q 0 = x := by
  have same : { x.queue q with isr := (x.queue q).isr ||| 0 } = x.queue q :=
    congrArg (fun v => { x.queue q with isr := v }) BitVec.or_zero
  exact (congrArg (x.setQueue q) same).trans (x.setQueue_queue q)

theorem Device.queues_eq {x y : Device} (h : ∀ p, x.queue p = y.queue p) : x.queues = y.queues :=
  Vector.ext fun n hn => h ⟨n, hn⟩

/-- The event type a frame of outcome `o` is recorded with (44_tsu R482). -/
def txEventKind (o : TxOutcome) (g : Option PtpMsg) : Option Nat := if outcomeIsOk o then eventKind g else none

theorem Device.ptpTxEvent_eq (x : Device) (k : Nat) :
    x.ptpTxEvent k = { x with ptp := txEventRegs x (some k) }.irq 0 (txEventBit (some k)) :=
  match k with
  | 0 | 1 | 2 | 3 => rfl
  | _ + 4 => (Device.irq_zero x 0).symm

theorem Device.txEvents_eq (x : Device) (q : Fin 4) (o : TxOutcome) (g : Option PtpMsg) : x.txEvents q o g =
    { (x.setTsr (outcomeTsr o)).irq q (outcomeIsr o) with ptp := txEventRegs x (txEventKind o g) }.irq 0
      (txEventBit (txEventKind o g)) := by
  have none_ : (x.setTsr (outcomeTsr o)).irq q (outcomeIsr o) =
      { (x.setTsr (outcomeTsr o)).irq q (outcomeIsr o) with ptp := txEventRegs x none }.irq 0 (txEventBit none) :=
    (Device.irq_zero _ 0).symm
  cases o with
  | ok c =>
    cases h : eventKind g with
    | none => simpa [Device.txEvents, txEventKind, outcomeIsOk, h] using none_
    | some k => simp only [Device.txEvents, txEventKind, outcomeIsOk, h, Device.ptpTxEvent_eq, if_true]; rfl
  | und | lco | rle | busErr => exact none_

theorem Device.txWritten_eq (x : Device) (q : Fin 4) (complete : Bool) : x.txWritten q complete =
    ((x.setTsr (if complete then 0x20#32 else 0x100#32)).irq q (if complete then 0x80#32 else 0x800#32)).modQueue q
      fun y => { y with txActive := complete && y.txActive } := by
  cases complete with
  | true => exact (Device.setQueue_queue _ q).symm
  | false => rfl

theorem Device.txHaltCheck_eq (x : Device) :
    x.txHaltCheck = { x with queues := x.txHaltCheck.queues, haltReq := false } := by
  unfold Device.txHaltCheck
  split
  · rfl
  · next off => rw [← Bool.eq_false_iff.mpr off]

theorem Device.countAll_eq (x : Device) (l : List Stat) : x.countAll l = { x with stats := (x.countAll l).stats } := by
  induction l generalizing x with
  | nil => rfl
  | cons c rest ih => exact ih (x.count c)

theorem Device.txStatistics_eq (x : Device) (o : TxOutcome) (f : List Byte) : x.txStatistics o f =
    { x with
      octTx := if outcomeIsOk o then bump x.octTx f.length else x.octTx
      stats := (x.txStatistics o f).stats } := by
  cases o with
  | ok c => exact Device.countAll_eq _ _
  | _ => rfl

theorem Device.stats_countAll_congr (l : List Stat) {x y : Device} (h : x.stats = y.stats) :
    (x.countAll l).stats = (y.countAll l).stats := by
  induction l generalizing x y with
  | nil => exact h
  | cons c rest ih => exact ih (x := x.count c) (y := y.count c) (by simp only [Device.count, h])

theorem Device.stats_txStatistics_congr {x y : Device} (h : x.stats = y.stats) (o : TxOutcome) (f : List Byte) :
    (x.txStatistics o f).stats = (y.txStatistics o f).stats := by
  cases o with
  | ok c => exact Device.stats_countAll_congr _ h
  | und | lco | rle => simp only [Device.txStatistics, Device.count, h]
  | busErr => exact h

/-! ### The whole device -/

/-- `y` is `x` but for what a transmission reaches. -/
def Device.TxChanged (x y : Device) : Prop := y = { x with
  tsr := y.tsr, queues := y.queues, haltReq := y.haltReq, ptp := y.ptp, octTx := y.octTx, stats := y.stats }

/-- The device after the step that ends a frame: events, write-back, counters, the frame given up, and a halt that waits
(R320). -/
def Device.txEnded (x : Device) (q : Fin 4) (o : TxOutcome) (im : TxImage) (complete : Bool) : Device :=
  ((((x.txEvents q o im.ptp).txWritten q complete).txStatistics o im.frame).modQueue q
    fun y => { y with inflight := none }).txHaltCheck

/-- Device `y` is device `x` after the step that ends a frame of outcome `o` in queue `q`, whose write-back was complete or
met a bus error (R322, R324 (c), R330-R332; 44_tsu R482). -/
structure Device.TxEnded (x y : Device) (q : Fin 4) (o : TxOutcome) (im : TxImage) (complete : Bool) : Prop where
  tsr     : y.tsr = x.tsr ||| (outcomeBits o).1 ||| (if complete then 0x20#32 else 0x100#32)
  queue   : ∀ p, y.queue p =
    { x.queue p with
      isr := (x.queue p).isr ||| (if p = q then (outcomeBits o).2 ||| (if complete then 0x80#32 else 0x800#32) else 0)
        ||| (if p = 0 then txEventBit (txEventKind o im.ptp) else 0)
      txActive := (complete || decide (p ≠ q)) && (x.queue p).txActive && !x.haltReq
      inflight := if p = q then none else (x.queue p).inflight }
  halt    : y.haltReq = false
  ptp     : y.ptp = txEventRegs x (txEventKind o im.ptp)
  octets  : y.octTx = if outcomeIsOk o then bump x.octTx im.frame.length else x.octTx
  counted : y.stats = (x.txStatistics o im.frame).stats
  rest    : x.TxChanged y

theorem outcomeBits_eq (o : TxOutcome) : outcomeBits o = (outcomeTsr o, outcomeIsr o) := by cases o <;> rfl

/-- The device after the events and the write-back of a frame (R322, R324 (c), R330; 44_tsu R482). -/
theorem Device.txWritten_txEvents_eq (x : Device) (q : Fin 4) (o : TxOutcome) (g : Option PtpMsg) (complete : Bool) :
    (x.txEvents q o g).txWritten q complete =
      { x with
        tsr := x.tsr ||| (outcomeBits o).1 ||| (if complete then 0x20#32 else 0x100#32)
        ptp := txEventRegs x (txEventKind o g)
        queues := ((x.txEvents q o g).txWritten q complete).queues } := by
  rw [Device.txWritten_eq, Device.txEvents_eq, outcomeBits_eq]
  rfl

theorem Device.queue_irq_eq (x : Device) (q p : Fin 4) (b : Word) : (x.irq q b).queue p =
    { x.queue p with isr := (x.queue p).isr ||| if p = q then b else 0 } := by
  rw [Device.queue_irq]
  by_cases own : p = q
  · simp [own]
  · simp [own]

theorem Device.queue_txEvents (x : Device) (q p : Fin 4) (o : TxOutcome) (g : Option PtpMsg) :
    (x.txEvents q o g).queue p =
      { x.queue p with
        isr := (x.queue p).isr ||| (if p = q then outcomeIsr o else 0)
          ||| (if p = 0 then txEventBit (txEventKind o g) else 0) } := by
  rw [Device.txEvents_eq, Device.queue_irq_eq]
  exact congrArg (fun y => { y with isr := y.isr ||| if p = 0 then txEventBit (txEventKind o g) else 0 })
    (Device.queue_irq_eq (x.setTsr (outcomeTsr o)) q p (outcomeIsr o))

theorem Device.queue_txWritten (x : Device) (q p : Fin 4) (complete : Bool) : (x.txWritten q complete).queue p =
    { x.queue p with
      isr := (x.queue p).isr ||| (if p = q then (if complete then 0x80#32 else 0x800#32) else 0)
      txActive := (complete || decide (p ≠ q)) && (x.queue p).txActive } := by
  rw [Device.txWritten_eq, Device.queue_modQueue, Device.queue_irq_eq, Device.queue_irq_eq]
  by_cases own : p = q
  · simp [own]
  · simp [own]

theorem Device.txEnded_spec (x : Device) (q : Fin 4) (o : TxOutcome) (im : TxImage) (complete : Bool) :
    x.TxEnded (x.txEnded q o im complete) q o im complete where
  tsr := by
    rw [Device.txEnded, Device.txHaltCheck_eq, Device.txStatistics_eq, Device.txWritten_txEvents_eq]
    rfl
  queue p := by
    have halt : ((x.txEvents q o im.ptp).txWritten q complete |>.txStatistics o im.frame).haltReq = x.haltReq := by
      rw [Device.txStatistics_eq, Device.txWritten_txEvents_eq]
    rw [Device.txEnded, Device.queue_txHaltCheck, Device.modQueue_haltReq, halt, Device.queue_modQueue,
      Device.queue_txStatistics, Device.queue_txStatistics, Device.queue_txWritten, Device.queue_txWritten,
      Device.queue_txEvents, Device.queue_txEvents, outcomeBits_eq]
    by_cases own : p = q
    · subst own
      have bits (a b c d : Word) : a ||| b ||| c ||| d = a ||| (b ||| d) ||| c := by ac_rfl
      cases x.haltReq <;> simp [bits]
    · cases x.haltReq <;> simp [own]
  halt := by rw [Device.txEnded, Device.txHaltCheck_eq]
  ptp := by
    rw [Device.txEnded, Device.txHaltCheck_eq, Device.txStatistics_eq,  Device.txWritten_txEvents_eq]
    rfl
  octets := by
    rw [Device.txEnded, Device.txHaltCheck_eq, Device.txStatistics_eq,  Device.txWritten_txEvents_eq]
    rfl
  counted := by
    rw [Device.txEnded, Device.txHaltCheck_eq]
    refine Device.stats_txStatistics_congr ?_ o im.frame
    rw [Device.txWritten_txEvents_eq]
  rest := by
    rw [Device.TxChanged, Device.txEnded, Device.txHaltCheck_eq, Device.txStatistics_eq,  Device.txWritten_txEvents_eq]
    rfl

end Sys2Proof.Machine
end

section
/-! PROOF. What a completed transmission reports (41_tx_ring R320-R332): the words written back and the line, then the
whole step put together, for every outcome and for a write-back that meets a bus error. -/

namespace Sys2Proof.Machine

/-! ### The write-back -/

/-- The timestamp a frame's first descriptor takes (44_tsu R477). -/
def txStamp (x : Device) (fr : TxFrame) (o : TxOutcome) : Option (BitVec 64 × BitVec 30) :=
  if outcomeIsOk o then
    captureStamp x.tsu (dmacfgTxext fr.conf.dmacfg) (tsMode fr.conf.txBdControl) (txImage x fr).ptp
  else none

/-- A timestamp is stored for a delivered frame that its capture mode takes (R477). -/
def txStamped (x : Device) (fr : TxFrame) (o : TxOutcome) : Bool :=
  outcomeIsOk o && stampStored (dmacfgTxext fr.conf.dmacfg) fr.conf.txBdControl (txImage x fr).ptp

/-- The words the end of a frame writes back, in order (R330). -/
def txWrites (x : Device) (fr : TxFrame) (o : TxOutcome) : List (Word × Word) :=
  txWriteBack fr.descs o (if outcomeIsOk o then (txImage x fr).ck else 0) (txStamp x fr o)

theorem txStamp_eq (x : Device) (fr : TxFrame) (o : TxOutcome) :
    txStamp x fr o = if txStamped x fr o then some (x.tsu.sec, x.tsu.ns) else none := by
  have taken := captureStamp_isSome x.tsu (dmacfgTxext fr.conf.dmacfg) fr.conf.txBdControl (txImage x fr).ptp
  rw [txStamp, txStamped, ← taken, captureStamp]
  cases outcomeIsOk o <;> simp

/-- The words that come before the first descriptor's w1 (R330). -/
def txWritesBefore (x : Device) (fr : TxFrame) (o : TxOutcome) (a : Word) (rest : List (Word × Word)) :
    List (Word × Word) :=
  (if txStamped x fr o then stampWords x.tsu a else []) ++ rest.map fun p => (p.1 + 4, p.2 ||| 0x80000000#32)

theorem txWrites_eq (x : Device) {fr : TxFrame} (o : TxOutcome) {a w : Word} {rest : List (Word × Word)}
    (descs : fr.descs = (a, w) :: rest) : txWrites x fr o = txWritesBefore x fr o a rest
      ++ [(a + 4, txFirstWord w (if outcomeIsOk o then (txImage x fr).ck else 0) (txStamped x fr o) o)] := by
  rw [txWrites, txStamp_eq, descs, txWritesBefore]
  cases txStamped x fr o <;> rfl

theorem txStampOverflow_eq (x : Device) {fr : TxFrame} (o : TxOutcome) {a w : Word} {rest : List (Word × Word)}
    (descs : fr.descs = (a, w) :: rest) :
    txStampOverflow fr.descs (txStamp x fr o) = (txStamped x fr o && decide (2 ^ 32 ≤ a.toNat + 12)) := by
  rw [descs, txStamp_eq]
  cases txStamped x fr o <;> rfl

/-- Word writes up to the first whose access fails. -/
theorem dmaWriteWords_of_mem {errs : List Nat} (ws : List (Word × Word)) (m : Memory) (n k : Nat) (failing : n + k ∈ errs)
    (first : ∀ j ∈ errs, n + k ≤ j) (short : k < ws.length) :
    dmaWriteWords ⟨errs, []⟩ m n ws = (Memory.writeWords m (ws.take k), k) := by
  induction ws generalizing m n k with
  | nil => exact absurd short (by simp)
  | cons w rest ih =>
    cases k with
    | zero => simp [dmaWriteWords, busErr_of_mem (show n ∈ errs from failing), Memory.writeWords]
    | succ k =>
      have here : n ∉ errs := fun h => by have := first n h; omega
      have next : n + (k + 1) = n + 1 + k := by omega
      rw [next] at failing first
      rw [dmaWriteWords, busErr_of_not_mem here, if_neg (by simp), ih _ (n + 1) k failing first (by simpa using short)]
      rfl

/-- A write-back leaves every byte outside its words, cut short or not. -/
theorem read_dmaWriteWords (o : Oracle) (ws : List (Word × Word)) (m : Memory) (n b : Nat)
    (outside : ∀ w ∈ ws, ¬ inWord w.1 b) : Memory.read (dmaWriteWords o m n ws).1 b = Memory.read m b := by
  induction ws generalizing m n with
  | nil => rfl
  | cons w rest ih =>
    rw [dmaWriteWords]
    split
    · rfl
    · obtain ⟨h0, h1, h2, h3⟩ : b ≠ w.1.toNat ∧ b ≠ (w.1 + 1).toNat ∧ b ≠ (w.1 + 2).toNat ∧ b ≠ (w.1 + 3).toNat := by
        simpa only [inWord, not_or] using outside w (by simp)
      exact (ih _ _ fun v hv => outside v (by simp [hv])).trans (Memory.read_write32_of_ne m w.1 w.2 b h0 h1 h2 h3)

theorem Memory.writeWords_append (xs ys : List (Word × Word)) (m : Memory) :
    Memory.writeWords m (xs ++ ys) = Memory.writeWords (Memory.writeWords m xs) ys := by
  induction xs generalizing m with
  | nil => rfl
  | cons w rest ih => exact ih _

/-! ### The line -/

/-- The MMSL after a frame of class `cls` in `k` fragments (45_mmsl R542). -/
def Mmsl.sent (y : Mmsl) (cls : Cls) (k : Nat) : Mmsl :=
  if cls = .preemptable then { y with fragTx := bump y.fragTx (k - 1) } else y

theorem State.setMmsl_mmsl (s : State) (m : Mac) : s.setMmsl m (s.mmsl m) = s := by cases m <;> rfl

theorem transmit_eq (s : State) (d : Dev) (c : TxConf) (frags : Nat) (f : List Byte) : transmit s d c frags f =
    { s.setMmsl (macOf d) ((s.mmsl (macOf d)).sent (txClass s d) frags) with
      lineOut := if ncrLbLocal c.ncr then s.lineOut else s.lineOut ++ [.txOut d f (txClass s d)] } := by
  unfold transmit Mmsl.sent
  cases txClass s d <;> cases ncrLbLocal c.ncr <;> cases d <;> rfl

/-- The state behind the step that ends a frame: the device, the MMSL, memory and the line. -/
theorem withDma_transmit (s : State) (d : Dev) (c : TxConf) (frags : Nat) (f : List Byte) (m : Memory) (y : Device) :
    (transmit s d c frags f).withDma d m y =
      { (s.setDev d y).setMmsl (macOf d) ((s.mmsl (macOf d)).sent (txClass s d) frags) with
        mem := m
        lineOut := if ncrLbLocal c.ncr then s.lineOut else s.lineOut ++ [.txOut d f (txClass s d)] } := by
  rw [transmit_eq]
  cases d <;> rfl

theorem withDma_eq (s : State) (d : Dev) (m : Memory) (y : Device) :
    s.withDma d m y = { (s.setDev d y).setMmsl (macOf d) (s.mmsl (macOf d)) with mem := m } := by
  cases d <;> rfl

/-! ### The whole step -/

section Step

variable {d : Dev} {q : Fin 4} {dr : TxDraws} {s : State} {fr : TxFrame}

/-- The step that ends a frame, in its parts (R320). -/
theorem runTxDone_eq (inflight : ((s.dev d).queue q).inflight = some fr)
    (draws : txDrawsInSet dr s d fr (txImage (s.dev d) fr).frame.length = true) :
    runTxDone d q dr s =
      let x := s.dev d
      let o := txOutcome fr dr.outcome
      let im := txImage x fr
      let r := dmaWriteWords ⟨dr.errs, s.cfg.holes⟩ s.mem 0 (txWrites x fr o)
      let t := (if outcomeIsOk o then transmit s d fr.conf dr.frags im.frame else s).withDma d r.1
        (x.txEnded q o im (decide (r.2 = (txWrites x fr o).length)))
      if txStampOverflow fr.descs (txStamp x fr o) then .fault .addressOverflow
      else if outcomeIsOk o && ncrLbLocal fr.conf.ncr then rxDevice d im.frame dr.loop t
      else .next t := by
  simp only [runTxDone, inflight, draws, Bool.not_true, Bool.false_eq_true, if_false]
  rfl

/-- The state behind the step that ends a frame of outcome `o`, but for the line: device `y`, memory `m`, and the fragments
of a delivered frame counted. -/
def txEndState (s : State) (d : Dev) (o : TxOutcome) (frags : Nat) (m : Memory) (y : Device) : State :=
  { (s.setDev d y).setMmsl (macOf d)
      (if outcomeIsOk o then (s.mmsl (macOf d)).sent (txClass s d) frags else s.mmsl (macOf d)) with
    mem := m }

/-- What becomes of the frame once the step's state is `t`: a delivered one goes to the line, or in loopback to its own
receiver (R323, R327, R333). -/
def txLeaves (s : State) (d : Dev) (fr : TxFrame) (o : TxOutcome) (dr : TxDraws) (t : State) : Result :=
  if outcomeIsOk o = false then .next t
  else if ncrLbLocal fr.conf.ncr then rxDevice d (txImage (s.dev d) fr).frame dr.loop t
  else .next { t with lineOut := s.lineOut ++ [.txOut d (txImage (s.dev d) fr).frame (txClass s d)] }

/-- The step that ends a frame, whose write-back leaves memory `m` and is complete or not. -/
theorem runTxDone_of_writes {o : TxOutcome} (inflight : ((s.dev d).queue q).inflight = some fr)
    (draws : txDrawsInSet dr s d fr (txImage (s.dev d) fr).frame.length = true) (outcome : txOutcome fr dr.outcome = o)
    {a w : Word} {rest : List (Word × Word)} (descs : fr.descs = (a, w) :: rest)
    (fits : txStamped (s.dev d) fr o = true → a.toNat + 12 < 2 ^ 32) {m : Memory} {k : Nat} {complete : Bool}
    (writes : dmaWriteWords ⟨dr.errs, s.cfg.holes⟩ s.mem 0 (txWrites (s.dev d) fr o) = (m, k))
    (count : decide (k = (txWrites (s.dev d) fr o).length) = complete) :
    runInput (.txDone d q dr) s = txLeaves s d fr o dr
      (txEndState s d o dr.frags m ((s.dev d).txEnded q o (txImage (s.dev d) fr) complete)) := by
  subst outcome
  have fit : txStampOverflow fr.descs (txStamp (s.dev d) fr (txOutcome fr dr.outcome)) = false := by
    rw [txStampOverflow_eq _ _ descs, Bool.and_eq_false_imp]
    exact fun h => decide_eq_false (by have := fits h; omega)
  refine (runTxDone_eq inflight draws).trans ?_
  simp only [writes, count, fit, Bool.false_eq_true, if_false, txEndState, txLeaves]
  cases ok : outcomeIsOk (txOutcome fr dr.outcome) with
  | false => simp [withDma_eq]
  | true => cases loop : ncrLbLocal fr.conf.ncr <;> simp [withDma_transmit, loop]

/-- The step that ends a frame without a bus error. -/
theorem runTxDone_complete {o : TxOutcome} (noErr : NoBusErr dr.errs s.cfg)
    (inflight : ((s.dev d).queue q).inflight = some fr)
    (draws : txDrawsInSet dr s d fr (txImage (s.dev d) fr).frame.length = true) (outcome : txOutcome fr dr.outcome = o)
    {a w : Word} {rest : List (Word × Word)} (descs : fr.descs = (a, w) :: rest)
    (fits : txStamped (s.dev d) fr o = true → a.toNat + 12 < 2 ^ 32) :
    runInput (.txDone d q dr) s = txLeaves s d fr o dr
      (txEndState s d o dr.frags (Memory.writeWords s.mem (txWrites (s.dev d) fr o))
        ((s.dev d).txEnded q o (txImage (s.dev d) fr) true)) :=
  runTxDone_of_writes inflight draws outcome descs fits (dmaWriteWords_eq _ _ s.mem 0 noErr.busErr) (decide_eq_true rfl)

end Step

/-! ### Word w1 of the first descriptor -/

/-- The error bit of an outcome in the first descriptor's w1 (30_encoding R147). -/
def txErrorBit : TxOutcome → Word
  | .ok _ => 0#32
  | .und => 0x10000000#32
  | .lco => 0x04000000#32
  | .rle => 0x20000000#32
  | .busErr => 0x08000000#32

theorem txFirstWord_eq (w : Word) (ck : Nat) (tsp : Bool) (o : TxOutcome) : txFirstWord w ck tsp o =
    (w &&& 0x400FFFFF#32) ||| BitVec.ofNat 32 ck <<< 20 ||| (if tsp then 0x00800000#32 else 0) ||| txErrorBit o
      ||| 0x80000000#32 := by
  cases o <;> simp [txFirstWord, bitAt, txErrorBit]

theorem txClass_eq (s : State) (d : Dev) : txClass s d =
    if d.hasMmsl && mmPen (s.mmsl (macOf d)).control
      && (mmVdis (s.mmsl (macOf d)).control || (s.mmsl (macOf d)).vstat == .succeeded) then .preemptable else .express := by
  rw [txClass, Mmsl.pactive, Bool.and_assoc]
  rfl

/-- Settles O34: the device, the words and the line of a delivered frame. -/
theorem txDelivered : Obligations.TxDelivered := by
  intro d q dr s fr a w rest c noErr inflight descs outcome x im mm cls kind stamped draws fits
  have spec := x.txEnded_spec q (.ok c) im true
  have done := runTxDone_complete noErr inflight draws outcome descs fits
  rw [txWrites_eq _ _ descs, txFirstWord_eq, txErrorBit, BitVec.or_zero] at done
  refine ⟨x.txEnded q (.ok c) im true, ?_, spec.tsr, fun p => ?_, spec.halt, spec.ptp, spec.octets, fun k => ?_,
    spec.rest⟩
  · refine done.trans ?_
    rw [txLeaves, txEndState, txClass_eq]
    rfl
  · rw [spec.queue p]
    simp only [outcomeBits, Bool.true_or, Bool.true_and, if_true]
    rfl
  · rw [spec.counted]
    exact x.stats_txStatistics _ _ k

/-- The device after a frame that is not delivered, with no halt pending (R322, R330, R331). -/
theorem Device.txEnded_of_failure {x : Device} {o : TxOutcome} (fails : outcomeIsOk o = false) (halt : x.haltReq = false)
    (q : Fin 4) (im : TxImage) : x.txEnded q o im true =
      { x with
        tsr := x.tsr ||| (outcomeBits o).1 ||| 0x20#32, stats := (x.txStatistics o im.frame).stats }.setQueue q
        { x.queue q with isr := (x.queue q).isr ||| (outcomeBits o).2 ||| 0x80#32, inflight := none } := by
  have spec := x.txEnded_spec q o im true
  have kind : txEventKind o im.ptp = none := by rw [txEventKind, fails]; rfl
  have queues : (x.txEnded q o im true).queues =
      (x.setQueue q { x.queue q with
        isr := (x.queue q).isr ||| (outcomeBits o).2 ||| 0x80#32, inflight := none }).queues := by
    refine Device.queues_eq fun p => ?_
    rw [spec.queue p, kind, Device.queue_setQueue, halt]
    by_cases own : p = q
    · subst own
      simp [txEventBit, BitVec.or_assoc]
    · simp [own, txEventBit]
  rw [spec.rest, spec.tsr, queues, spec.halt.trans halt.symm, spec.ptp, spec.octets, spec.counted, kind, fails]
  rfl

/-- The words of a frame that is not delivered (R330). -/
theorem txWrites_of_failure (x : Device) {fr : TxFrame} {o : TxOutcome} (fails : outcomeIsOk o = false) {a w : Word}
    {rest : List (Word × Word)} (descs : fr.descs = (a, w) :: rest) : txWrites x fr o =
      rest.map (fun p => (p.1 + 4, p.2 ||| 0x80000000#32))
        ++ [(a + 4, (w &&& 0x400FFFFF#32) ||| txErrorBit o ||| 0x80000000#32)] := by
  have plain : txStamped x fr o = false := by rw [txStamped, fails, Bool.false_and]
  rw [txWrites_eq _ _ descs, txWritesBefore, txFirstWord_eq, plain, fails]
  simp

/-- Each row of the table says what its outcome does, none of them a delivery. -/
theorem failures_reported : ∀ row ∈ failures, outcomeIsOk row.1 = false ∧ outcomeBits row.1 = (row.2.1, row.2.2.1)
    ∧ txErrorBit row.1 = row.2.2.2.1 ∧ ∀ (x : Device) (f : List Byte), (x.txStatistics row.1 f).stats =
      match row.2.2.2.2 with
      | some c => x.stats.set (statIndex c) (bump x.stats[statIndex c] 1)
      | none => x.stats :=
  List.forall_iff_forall_mem.mp
    ⟨⟨rfl, rfl, rfl, fun _ _ => rfl⟩, ⟨rfl, rfl, rfl, fun _ _ => rfl⟩, ⟨rfl, rfl, rfl, fun _ _ => rfl⟩, rfl, rfl, rfl,
      fun _ _ => rfl⟩

/-- Settles O33: nothing goes to the line, no timestamp is stored, and the row says the rest. -/
theorem txFailureReported : Obligations.TxFailureReported := by
  intro row hrow d q dr s fr a w rest noErr inflight descs outcome halt draws x
  obtain ⟨fails, bits, error, stats⟩ := failures_reported row hrow
  have done := runTxDone_complete noErr inflight draws outcome descs (by simp [txStamped, fails])
  rw [txWrites_of_failure _ fails descs, Device.txEnded_of_failure fails halt, bits, error, stats, txLeaves, if_pos fails,
    txEndState, fails, if_neg (by simp), ← withDma_eq] at done
  exact done

/-- Settles O35: the writes before the one that fails, and the rest of the step as of any other frame. -/
theorem txWriteBackError : Obligations.TxWriteBackError := by
  intro d q dr s fr a w rest k holes failing first inflight descs x im o ok mm kind stamped before draws fits short
  have words : txWrites x fr o = before ++ [(a + 4, txFirstWord w (if ok then im.ck else 0) stamped o)] :=
    txWrites_eq x o descs
  have writes : dmaWriteWords ⟨dr.errs, s.cfg.holes⟩ s.mem 0 (txWrites x fr o)
      = (Memory.writeWords s.mem (before.take k), k) := by
    rw [holes, dmaWriteWords_of_mem (txWrites x fr o) s.mem 0 k (by rwa [Nat.zero_add]) (by rwa [Nat.zero_add])
      (by rw [words, List.length_append]; exact Nat.lt_succ_of_le short), words, List.take_append_of_le_length short]
  have count : decide (k = (txWrites x fr o).length) = false := by
    rw [words, List.length_append]
    exact decide_eq_false (Nat.ne_of_lt (Nat.lt_succ_of_le short))
  have done := runTxDone_of_writes inflight draws rfl descs fits writes count
  have spec := x.txEnded_spec q o im false
  have fragments : (if ok then mm.sent (txClass s d) dr.frags else mm) =
      if ok = true ∧ txClass s d = .preemptable then { mm with fragTx := bump mm.fragTx (dr.frags - 1) } else mm := by
    cases ok <;> simp [Mmsl.sent]
  refine ⟨x.txEnded q o im false, ?_, spec.tsr, spec.queue, spec.halt, spec.ptp, spec.octets, fun c => ?_, spec.rest⟩
  · refine done.trans ?_
    rw [← fragments]
    rfl
  · rw [spec.counted]
    exact x.stats_txStatistics _ _ c

/-! ### Memory behind the step -/

/-- The memory a step that ends a frame leaves, if the frame is not looped back. -/
theorem runTxDone_mem {d : Dev} {q : Fin 4} {dr : TxDraws} {s t : State} {fr : TxFrame}
    (inflight : ((s.dev d).queue q).inflight = some fr)
    (draws : txDrawsInSet dr s d fr (txImage (s.dev d) fr).frame.length = true)
    (line : ncrLbLocal fr.conf.ncr = false ∨ outcomeIsOk (txOutcome fr dr.outcome) = false)
    (h : runTxDone d q dr s = .next t) : t.mem =
      (dmaWriteWords ⟨dr.errs, s.cfg.holes⟩ s.mem 0 (txWrites (s.dev d) fr (txOutcome fr dr.outcome))).1 := by
  have noLoop : (outcomeIsOk (txOutcome fr dr.outcome) && ncrLbLocal fr.conf.ncr) = false := by
    rcases line with h | h <;> simp [h]
  simp only [runTxDone_eq inflight draws, noLoop, Bool.false_eq_true, if_false] at h
  split at h
  · cases h
  · cases h
    rfl

/-- The places of the checksum code in a first descriptor's w1 (30_encoding R147). -/
theorem txCodeBits_spec : ∀ k : Fin 8,
    (BitVec.ofNat 32 k.val <<< 20) &&& 0x400FFFFF#32 = 0#32
      ∧ (BitVec.ofNat 32 k.val <<< 20).extractLsb' 20 3 = BitVec.ofNat 3 k.val
      ∧ (BitVec.ofNat 32 k.val <<< 20).extractLsb' 24 2 = 0#2
      ∧ ∀ i ∈ [23, 26, 27, 28, 29, 31], (BitVec.ofNat 32 k.val <<< 20).getLsbD i = false := by
  decide

/-- The places of the error bits (30_encoding R147). -/
theorem txErrorBit_spec (o : TxOutcome) : txErrorBit o &&& 0x400FFFFF#32 = 0#32
    ∧ (txErrorBit o).extractLsb' 20 3 = 0#3 ∧ (txErrorBit o).extractLsb' 24 2 = 0#2
    ∧ (txErrorBit o).getLsbD 23 = false ∧ (txErrorBit o).getLsbD 26 = decide (o = .lco)
    ∧ (txErrorBit o).getLsbD 27 = decide (o = .busErr) ∧ (txErrorBit o).getLsbD 28 = decide (o = .und)
    ∧ (txErrorBit o).getLsbD 29 = decide (o = .rle) := by
  cases o <;> simp [txErrorBit]

/-- Software's bits and those the block writes do not meet in a first descriptor's w1. -/
theorem txFirstWord_spec (w : Word) {ck : Nat} (code : ck < 8) (tsp : Bool) (o : TxOutcome) :
    let v := txFirstWord w ck tsp o
    txUsed v = true ∧ v &&& 0x400FFFFF#32 = w &&& 0x400FFFFF#32 ∧ field v 20 3 = ck ∧ v.getLsbD 23 = tsp
      ∧ field v 24 2 = 0 ∧ v.getLsbD 26 = decide (o = .lco) ∧ v.getLsbD 27 = decide (o = .busErr)
      ∧ v.getLsbD 28 = decide (o = .und) ∧ v.getLsbD 29 = decide (o = .rle) := by
  obtain ⟨codeMask, codeField, codeAbove, codeBits⟩ := txCodeBits_spec ⟨ck, code⟩
  obtain ⟨errorMask, errorCode, errorAbove, stamp, lco, busErr, und, rle⟩ := txErrorBit_spec o
  simp only [List.forall_mem_cons, List.not_mem_nil, false_imp_iff, implies_true, and_true] at codeBits
  obtain ⟨c23, c26, c27, c28, c29, c31⟩ := codeBits
  have number : (BitVec.ofNat 3 ck).toNat = ck := by rw [BitVec.toNat_ofNat, Nat.mod_eq_of_lt code]
  simp only [txFirstWord_eq, txUsed, field, BitVec.getLsbD_or, BitVec.getLsbD_and, BitVec.extractLsb'_or,
    BitVec.extractLsb'_and, BitVec.and_or_distrib_right, codeMask, codeField, codeAbove, errorMask, errorCode, errorAbove,
    stamp, lco, busErr, und, rle, c23, c26, c27, c28, c29, c31]
  cases tsp <;> simp [number, BitVec.and_assoc]

theorem checksumOffload_code_lt (vlan : Word) (f : List Byte) : (checksumOffload vlan f).2 < 8 := by
  unfold checksumOffload
  simp only
  split
  · simp
  · split_ifs <;> simp

theorem txImage_code_lt (x : Device) (fr : TxFrame) : (txImage x fr).ck < 8 := by
  unfold txImage
  simp only
  split
  · simp
  · exact checksumOffload_code_lt _ _

/-- Settles O36: the last word written back is the first descriptor's w1. -/
theorem txFirstWordLast : Obligations.TxFirstWordLast := by
  intro d q dr s t fr a w rest noErr inflight descs o im line draws done v
  have mem := runTxDone_mem inflight draws line done
  rw [dmaWriteWords_eq _ _ s.mem 0 noErr.busErr, txWrites_eq _ _ descs, Memory.writeWords_append] at mem
  have word : v = txFirstWord w (if outcomeIsOk o then im.ck else 0) (txStamped (s.dev d) fr o) o :=
    (congrArg (Memory.read32 · (a + 4)) mem).trans (Memory.read32_write32 _ _ _)
  have code : (if outcomeIsOk o then im.ck else 0) < 8 := by
    split
    · exact txImage_code_lt _ _
    · decide
  rw [word]
  exact txFirstWord_spec w code _ o

/-- The words written back are the w1 words of the frame's descriptors and the timestamp words of its first. -/
theorem mem_txWrites {x : Device} {fr : TxFrame} {o : TxOutcome} {v : Word × Word} (h : v ∈ txWrites x fr o) :
    (∃ p ∈ fr.descs, v.1 = p.1 + 4)
      ∨ (txStamped x fr o = true ∧ ∃ p ∈ fr.descs.head?, v.1 = p.1 + 8 ∨ v.1 = p.1 + 12) := by
  cases descs : fr.descs with
  | nil => simp [txWrites, descs, txWriteBack] at h
  | cons p rest =>
    rw [txWrites_eq x o descs, txWritesBefore] at h
    simp only [List.mem_append, List.mem_map, List.mem_singleton] at h
    rcases h with (stamp | ⟨r, hr, rfl⟩) | rfl
    · cases stamped : txStamped x fr o <;> simp [stamped, stampWords] at stamp
      exact .inr ⟨rfl, p, rfl, stamp.imp (by rintro rfl; rfl) (by rintro rfl; rfl)⟩
    · exact .inl ⟨r, by simp [hr], rfl⟩
    · exact .inl ⟨p, by simp, rfl⟩

/-- Settles O37: a write-back changes no byte outside its words, and a step that is passed over none. -/
theorem txWritesOnlyItsDescriptors : Obligations.TxWritesOnlyItsDescriptors := by
  intro d q dr s t fr b inflight line done ownWords stampWords_
  cases draws : txDrawsInSet dr s d fr (txImage (s.dev d) fr).frame.length with
  | false =>
    have passed : (.next s : Result) = .next t := (runTxDone_of_not_inSet inflight draws).symm.trans done
    cases passed
    rfl
  | true =>
    rw [runTxDone_mem inflight draws line done]
    refine read_dmaWriteWords _ _ _ _ _ fun v hv => ?_
    rcases mem_txWrites hv with ⟨p, hp, place⟩ | ⟨stamped, p, hp, place⟩
    · exact place ▸ ownWords p hp
    · obtain ⟨sent, captured⟩ := Bool.and_eq_true_iff.mp stamped
      obtain ⟨low, high⟩ := stampWords_ sent captured p hp
      rcases place with place | place
      · exact place ▸ low
      · exact place ▸ high

end Sys2Proof.Machine
end

section
/-! PROOF. What the receive path leaves of the transmit side and of the line (41_tx_ring R332, R333), for a frame that is
looped back; and what every step gives the line (R323; 45_mmsl R529, R533). -/

namespace Sys2Proof.Machine

/-! ### The transmit side through reception -/

/-- `y` has the transmit pointers and activity of `x`, and its pending halt. -/
structure Device.TxKept (x y : Device) : Prop where
  halt  : y.haltReq = x.haltReq
  queue : ∀ q, (y.queue q).txActive = (x.queue q).txActive ∧ (y.queue q).txCur = (x.queue q).txCur

namespace Device.TxKept

variable {x y : Device}

theorem refl (x : Device) : x.TxKept x := ⟨rfl, fun _ => ⟨rfl, rfl⟩⟩

/-- A change of one queue that leaves its transmit side. -/
theorem modQueue (h : x.TxKept y) (q : Fin 4) (f : Queue → Queue) (active : ∀ z, (f z).txActive = z.txActive)
    (cur : ∀ z, (f z).txCur = z.txCur) : x.TxKept (y.modQueue q f) where
  halt := h.halt
  queue p := by
    rw [Device.queue_modQueue]
    split
    · next same => rw [active, cur, ← same]; exact h.queue p
    · exact h.queue p

theorem irq (h : x.TxKept y) (q : Fin 4) (b : Word) : x.TxKept (y.irq q b) := h.modQueue q _ (fun _ => rfl) fun _ => rfl

theorem count (h : x.TxKept y) (c : Stat) : x.TxKept (y.count c) := ⟨h.halt, h.queue⟩

theorem setRsr (h : x.TxKept y) (b : Word) : x.TxKept (y.setRsr b) := ⟨h.halt, h.queue⟩

theorem countAll (h : x.TxKept y) (l : List Stat) : x.TxKept (y.countAll l) := by
  induction l generalizing y with
  | nil => exact h
  | cons c rest ih => exact ih (h.count c)

theorem ptpRxEvent (h : x.TxKept y) (kind : Nat) : x.TxKept (y.ptpRxEvent kind) := by
  have recorded (p : PtpRegs) : x.TxKept { y with ptp := p } := ⟨h.halt, h.queue⟩
  match kind with
  | 0 | 1 | 2 | 3 => exact (recorded _).irq 0 _
  | _ + 4 => exact h

theorem rxResourceError (h : x.TxKept y) (t : Fin 4) : x.TxKept (y.rxResourceError t) := ((h.setRsr _).irq t _).count _

theorem rxBusError (h : x.TxKept y) (t : Fin 4) : x.TxKept (y.rxBusError t) := (h.setRsr _).irq t _

theorem rxOverrun (h : x.TxKept y) : x.TxKept y.rxOverrun := ((h.setRsr _).irq 0 _).count _

theorem rxDone (h : x.TxKept y) (t : Fin 4) (f : List Byte) : x.TxKept (y.rxDone t f) := by
  have octets : x.TxKept { (y.setRsr rsrRec).irq t isrRcomp with octRx := bump y.octRx f.length } :=
    let ⟨halt, queue⟩ := (h.setRsr rsrRec).irq t isrRcomp
    ⟨halt, queue⟩
  exact octets.countAll _

theorem setRxCur (h : x.TxKept y) (t : Fin 4) (a : Word) : x.TxKept (y.setRxCur t a) :=
  h.modQueue t _ (fun _ => rfl) fun _ => rfl

end Device.TxKept

/-- The next state of a result, if there is one, has the line of `s` and the transmit side of device `x` in `d`. -/
def RxLeaves (d : Dev) (x : Device) (s : State) (r : Result) : Prop :=
  ∀ t, r = .next t → t.lineOut = s.lineOut ∧ x.TxKept (t.dev d)

namespace RxLeaves

variable {d : Dev} {x y : Device} {s : State}

theorem fault (r : Fault) : RxLeaves d x s (.fault r) := by intro t e; cases e

theorem withDma (h : x.TxKept y) (m : Memory) : RxLeaves d x s (.next (s.withDma d m y)) := by
  intro t e
  cases e
  rw [State.withDma_dev, if_pos rfl]
  exact ⟨State.withDma_lineOut s d m y, h⟩

theorem setDev (h : x.TxKept y) : RxLeaves d x s (.next (s.setDev d y)) := by
  intro t e
  cases e
  rw [State.dev_setDev_self]
  exact ⟨State.setDev_lineOut s d y, h⟩

theorem ite {p : Prop} [Decidable p] {a b : Result} (h : RxLeaves d x s a) (k : RxLeaves d x s b) :
    RxLeaves d x s (if p then a else b) := by
  split
  · exact h
  · exact k

end RxLeaves

theorem rxStore_leaves (d : Dev) (t : Fin 4) (p : Parsed) (g : Option PtpMsg) (badfcs : Bool) (errs : List Nat)
    (f : List Byte) {x y : Device} (s : State) (h : x.TxKept y) :
    RxLeaves d x s (rxStore d t p g badfcs errs f y s) := by
  unfold rxStore
  simp only
  refine .ite (.fault _) ?_
  split
  · exact .fault _
  · exact .withDma (h.rxResourceError t) _
  · exact .withDma (h.rxBusError t) _
  · exact .ite (.ite (.fault _) (.withDma (h.rxBusError t) _)) (.ite (.withDma ((h.setRxCur t _).rxDone t f) _)
      (.ite (.withDma (h.rxBusError t) _) (.withDma ((h.setRxCur t _).rxBusError t) _)))

/-- The receive path gives the line nothing and leaves the transmit side of its device. -/
theorem rxDevice_leaves (d : Dev) (f : List Byte) (dr : RxDraws) (s : State) :
    RxLeaves d (s.dev d) s (rxDevice d f dr s) := by
  have same := Device.TxKept.refl (s.dev d)
  have recorded (g : Option PtpMsg) (l : List Stat) : (s.dev d).TxKept
      (match eventKind g with
        | some k => ((s.dev d).countAll l).ptpRxEvent k
        | none => (s.dev d).countAll l) := by
    split
    · exact (same.countAll l).ptpRxEvent _
    · exact same.countAll l
  unfold rxDevice
  simp only
  refine .ite ?_ (.ite (.setDev same.rxOverrun) (.ite (.setDev (same.countAll _)) (.ite (.setDev (recorded _ _)) ?_)))
  · intro t e
    cases e
    exact ⟨rfl, same⟩
  · split
    · exact .setDev (recorded _ _)
    · exact .ite (.setDev ((recorded _ _).rxResourceError _)) (rxStore_leaves _ _ _ _ _ _ _ _ (recorded _ _))

/-! ### A halt that waits -/

theorem transmit_lineOut (s : State) (d : Dev) (c : TxConf) (frags : Nat) (f : List Byte) :
    (transmit s d c frags f).lineOut =
      if ncrLbLocal c.ncr then s.lineOut else s.lineOut ++ [.txOut d f (txClass s d)] := by
  rw [transmit_eq]

/-- The step that ends a frame, whatever becomes of the frame: the line takes a frame delivered out of loopback, and the
device is as at the step's end on the transmit side. -/
theorem runTxDone_leaves {d : Dev} {q : Fin 4} {dr : TxDraws} {s t : State} {fr : TxFrame}
    (inflight : ((s.dev d).queue q).inflight = some fr)
    (draws : txDrawsInSet dr s d fr (txImage (s.dev d) fr).frame.length = true) (h : runTxDone d q dr s = .next t) :
    let o := txOutcome fr dr.outcome
    let im := txImage (s.dev d) fr
    t.lineOut = (if outcomeIsOk o && !ncrLbLocal fr.conf.ncr then s.lineOut ++ [.txOut d im.frame (txClass s d)]
      else s.lineOut) ∧ ∃ complete, ((s.dev d).txEnded q o im complete).TxKept (t.dev d) := by
  intro o im
  have line : (if outcomeIsOk o then transmit s d fr.conf dr.frags im.frame else s).lineOut =
      if outcomeIsOk o && !ncrLbLocal fr.conf.ncr then s.lineOut ++ [.txOut d im.frame (txClass s d)] else s.lineOut := by
    cases outcomeIsOk o <;> cases loop : ncrLbLocal fr.conf.ncr <;> simp [transmit_lineOut, loop]
  rw [runTxDone_eq inflight draws] at h
  simp only at h
  generalize decide (_ = (txWrites (s.dev d) fr o).length) = complete at h
  split at h
  · cases h
  · split at h
    · obtain ⟨sameLine, kept⟩ := rxDevice_leaves _ _ _ _ _ h
      rw [State.withDma_dev, if_pos rfl] at kept
      rw [State.withDma_lineOut] at sameLine
      exact ⟨sameLine.trans line, complete, kept⟩
    · cases h
      refine ⟨(State.withDma_lineOut _ _ _ _).trans line, complete, ?_⟩
      rw [State.withDma_dev, if_pos rfl]
      exact .refl _

/-- Settles O38: at the step's end every queue is inactive and every pointer as it was, and a looped back frame leaves
that. -/
theorem txHaltTakesHold : Obligations.TxHaltTakesHold := by
  intro d q dr s t fr halt inflight draws done
  obtain ⟨-, complete, kept⟩ := runTxDone_leaves inflight draws done
  have spec := (s.dev d).txEnded_spec q (txOutcome fr dr.outcome) (txImage (s.dev d) fr) complete
  refine ⟨kept.halt.trans spec.halt, fun p => ?_⟩
  obtain ⟨active, cur⟩ := kept.queue p
  rw [active, cur, spec.queue p, halt]
  exact ⟨Bool.and_false _, rfl⟩

/-! ### The line -/

/-- A step that gives the line nothing. -/
def KeepsLine (s : State) (r : Result) : Prop := ∀ t, r = .next t → t.lineOut = s.lineOut

theorem KeepsLine.next {s t : State} (h : t.lineOut = s.lineOut) : KeepsLine s (.next t) := by
  intro u e; cases e; exact h

theorem KeepsLine.fault (s : State) (r : Fault) : KeepsLine s (.fault r) := by intro t e; cases e

theorem KeepsLine.refused (s : State) (r : Refusal) : KeepsLine s (.refused r) := by intro t e; cases e

theorem KeepsLine.ite {s : State} {p : Prop} [Decidable p] {a b : Result} (h : KeepsLine s a) (k : KeepsLine s b) :
    KeepsLine s (if p then a else b) := by
  split
  · exact h
  · exact k

theorem Framed.keepsLine {i : Instr} {s : State} {r : Result} (h : Framed i s r) : KeepsLine s r :=
  fun t e => (h t e).lineOut

theorem RxLeaves.keepsLine {d : Dev} {x : Device} {s : State} {r : Result} (h : RxLeaves d x s r) : KeepsLine s r :=
  fun t e => (h t e).1

/-- A register that the opcode table does not list is framed as any other register of its device. -/
theorem accessUnlisted_framed (d : Dev) (off : Nat) (op : MmioOp) (s : State) :
    Framed (.hrb d op) s (accessUnlisted d off op s) := by
  have stored {p : Bool} {o : Nat} {rsvd value : Word} {f : Word → Device → Device}
      (h : ∀ v, (f v (s.dev d)).queues = (s.dev d).queues) : Framed (.hrb d op) s
        (whenPresent p o op s (rwReg o rsvd value (fun v => .next (s.modDev d (f v))) op s)) :=
    whenPresent_framed op (rwReg_framed op fun v => .next (.ofQueues s (f v) (h v)))
  unfold accessUnlisted
  refine .ite (stored fun _ => rfl) (.ite (stored fun _ => rfl) (.ite (stored fun _ => rfl)
    (.ite (.ite (stored fun _ => rfl) (stored fun _ => rfl)) ?_)))
  exact whenPresent_framed (p := false) (a := .next s) op (.next (.refl s))

theorem runDecoded_keepsLine (r : Except Reject Instr) (s : State) : KeepsLine s (runDecoded r s) := by
  unfold runDecoded
  split
  · exact (exec_framed _ s).keepsLine
  · exact .refused _ _
  · exact (accessUnlisted_framed _ _ _ s).keepsLine

theorem runBus_keepsLine (a : Word) (n : Nat) (op : MmioOp) (s : State) : KeepsLine s (runBus a n op s) := by
  unfold runBus
  split
  · exact .refused _ _
  · exact .ite (.refused _ _) (runDecoded_keepsLine _ _)

theorem runTxFetch_keepsLine (d : Dev) (q : Fin 4) (errs : List Nat) (s : State) :
    KeepsLine s (runTxFetch d q errs s) := by
  unfold runTxFetch
  simp only
  refine .ite (.next rfl) ?_
  split
  · exact .fault _ _
  · exact .next (State.setDev_lineOut _ _ _)
  · exact .next (State.setDev_lineOut _ _ _)
  · exact .ite (.fault _ _) (.ite (.fault _ _) (.next (State.setDev_lineOut _ _ _)))

theorem runRxFrame_keepsLine (m : Mac) (a : Arrival) (dr : RxDraws) (s : State) :
    KeepsLine s (runRxFrame m a dr s) := by
  have counted : (if a.cls = .preemptable then modMmsl s m fun y => y.countRx a.frags a.aerr else s).lineOut
      = s.lineOut := by
    split
    · exact modMmsl_lineOut _ _ _
    · rfl
  unfold runRxFrame
  simp only
  refine .ite (.next rfl) (.ite (.next counted) fun t e => ?_)
  exact ((rxDevice_leaves _ _ _ _).keepsLine t e).trans counted

/-- What the step that ends a frame gives the line: a frame that is delivered out of loopback. -/
theorem runTxDone_line {d : Dev} {q : Fin 4} {dr : TxDraws} {s t : State} (h : runTxDone d q dr s = .next t) :
    t.lineOut = s.lineOut ∨ ∃ fr, ((s.dev d).queue q).inflight = some fr
      ∧ outcomeIsOk (txOutcome fr dr.outcome) = true ∧ ncrLbLocal fr.conf.ncr = false
      ∧ t.lineOut = s.lineOut ++ [.txOut d (txImage (s.dev d) fr).frame (txClass s d)] := by
  cases inflight : ((s.dev d).queue q).inflight with
  | none =>
    cases (runTxDone_of_idle dr inflight).symm.trans h
    exact .inl rfl
  | some fr =>
    cases draws : txDrawsInSet dr s d fr (txImage (s.dev d) fr).frame.length with
    | false =>
      cases (runTxDone_of_not_inSet inflight draws).symm.trans h
      exact .inl rfl
    | true =>
      obtain ⟨line, -⟩ := runTxDone_leaves inflight draws h
      split at line
      · next sent =>
        obtain ⟨ok, outside⟩ : _ ∧ _ := by simpa only [Bool.and_eq_true, Bool.not_eq_true'] using sent
        exact .inr ⟨fr, rfl, ok, outside, line⟩
      · exact .inl line

/-- Settles O39: the steps of the transmit engine and of the MMSL that give the line something, and every other. -/
theorem lineReceivesOnly : Obligations.LineReceivesOnly := by
  intro i s t h
  have nothing (k : KeepsLine s (runInput i s)) : t.lineOut = s.lineOut ++ [] := by rw [k t h, List.append_nil]
  cases i with
  | mmio w => exact ⟨[], nothing (runDecoded_keepsLine _ _), .inl rfl⟩
  | bus a n op => exact ⟨[], nothing (runBus_keepsLine _ _ _ _), .inl rfl⟩
  | hostStore a b => exact ⟨[], nothing (.ite (.fault _ _) (.ite (.fault _ _) (.next rfl))), .inl rfl⟩
  | hostLoad a => exact ⟨[], nothing (.ite (.fault _ _) (.next rfl)), .inl rfl⟩
  | txFetch d q errs => exact ⟨[], nothing (runTxFetch_keepsLine _ _ _ _), .inl rfl⟩
  | rxFrame m a dr => exact ⟨[], nothing (runRxFrame_keepsLine _ _ _ _), .inl rfl⟩
  | tsuTick d => exact ⟨[], nothing (.next (State.modDev_lineOut _ _ _)), .inl rfl⟩
  | mmTimeout m | mmRxRespond m | mmRxVerify m =>
    exact ⟨[], nothing (.ite (.next (modMmsl_lineOut _ _ _)) (.next rfl)), .inl rfl⟩
  | lineEvent d c => exact ⟨[], nothing (.ite (.next (State.modDev_lineOut _ _ _)) (.next rfl)), .inl rfl⟩
  | hwReset => exact ⟨[], nothing (.next rfl), .inl rfl⟩
  | mmSendVerify m =>
    unfold runInput runSendVerify at h
    simp only at h
    split at h
    · cases h
      exact ⟨_, rfl, .inr (.inl ⟨m, rfl, rfl⟩)⟩
    · cases h
      exact ⟨[], (List.append_nil _).symm, .inl rfl⟩
  | mmSendRespond m =>
    unfold runInput runSendRespond at h
    simp only at h
    split at h
    · cases h
      exact ⟨_, rfl, .inr (.inr (.inl ⟨m, rfl, rfl⟩))⟩
    · cases h
      exact ⟨[], (List.append_nil _).symm, .inl rfl⟩
  | txDone d q dr =>
    rcases runTxDone_line h with line | ⟨fr, inflight, sent, loop, line⟩
    · exact ⟨[], by rw [line, List.append_nil], .inl rfl⟩
    · exact ⟨_, line, .inr (.inr (.inr ⟨d, q, dr, fr, rfl, inflight, sent, loop, rfl⟩))⟩

end Sys2Proof.Machine
end

section
/-! PROOF. Frames as they leave: padding and the FCS (41_tx_ring R326; 43_classifier R407), and checksum offload (R325): the
bytes a patch leaves, ones'-complement sums, and the code chain. -/

namespace Sys2Proof.Machine

/-! ### Padding and the FCS -/

@[simp] theorem length_wordBytes (v : Word) : (wordBytes v).length = 4 := rfl

theorem length_pad60 (f : List Byte) : (pad60 f).length = max f.length 60 := by
  rw [pad60, List.length_append, List.length_replicate]
  omega

theorem length_withFcs (f : List Byte) : (withFcs f).length = f.length + 4 := by
  rw [withFcs, List.length_append, fcs32, length_wordBytes]

/-- A frame with its FCS passes the check of a receiver (R407). -/
theorem fcsOk_withFcs (runt : Bool) (f : List Byte) : fcsOk runt (withFcs f) = true := by
  rw [fcsOk, length_withFcs, if_neg (by omega), Nat.add_sub_cancel, withFcs, List.drop_left, List.take_left]
  exact decide_eq_true rfl

/-- Settles O43: the padding stands between the frame and the FCS. -/
theorem paddingAndFcs : Obligations.PaddingAndFcs := by
  intro f r
  refine ⟨by rw [length_withFcs, length_pad60], ?_, fun i low high => ?_, fcsOk_withFcs r _⟩
  · rw [withFcs, pad60, List.append_assoc, List.take_left]
  · have inside : i < (pad60 f).length := by rw [length_pad60]; omega
    rw [withFcs, List.getD_append _ _ _ _ inside, pad60, List.getD_append_right _ _ _ _ low]
    simp [show i - f.length < 60 - f.length by omega]

/-! ### Patches and slices -/

theorem length_patch {f b : List Byte} {i : Nat} (h : i + b.length ≤ f.length) : (patch f i b).length = f.length := by
  simp only [patch, List.length_append, List.length_take, List.length_drop]
  omega

theorem getElem?_patch {f b : List Byte} {i : Nat} (h : i + b.length ≤ f.length) (j : Nat) : (patch f i b)[j]? =
    if i ≤ j ∧ j < i + b.length then b[j - i]? else f[j]? := by
  have front : (f.take i).length = i := by rw [List.length_take]; omega
  have both : (f.take i ++ b).length = i + b.length := by rw [List.length_append, front]
  rw [patch]
  rcases Nat.lt_or_ge j i with low | low
  · rw [if_neg (by omega), List.getElem?_append_left (by omega), List.getElem?_append_left (by omega),
      List.getElem?_take_of_lt low]
  · rcases Nat.lt_or_ge j (i + b.length) with high | high
    · rw [if_pos ⟨low, high⟩, List.getElem?_append_left (by omega), List.getElem?_append_right (by omega), front]
    · rw [if_neg (by omega), List.getElem?_append_right (by omega), both, List.getElem?_drop]
      congr 1
      omega

theorem getElem?_slice (f : List Byte) (i n j : Nat) : (slice f i n)[j]? = if j < n then f[i + j]? else none := by
  rw [slice, List.getElem?_take, List.getElem?_drop]

theorem length_slice {f : List Byte} {i n : Nat} (h : i + n ≤ f.length) : (slice f i n).length = n := by
  rw [slice, List.length_take, List.length_drop]
  omega

/-- A second patch of the same place and length replaces the first. -/
theorem patch_patch {f b c : List Byte} {i : Nat} (h : i + b.length ≤ f.length) (same : c.length = b.length) :
    patch (patch f i b) i c = patch f i c := by
  refine List.ext_getElem? fun j => ?_
  rw [getElem?_patch (by rw [length_patch h, same]; exact h), getElem?_patch h, getElem?_patch (by rw [same]; exact h),
    same]
  split <;> rfl

/-- A slice beside a patch. -/
theorem slice_patch_outside {f b : List Byte} {i : Nat} (h : i + b.length ≤ f.length) {k n : Nat}
    (beside : k + n ≤ i ∨ i + b.length ≤ k) : slice (patch f i b) k n = slice f k n := by
  refine List.ext_getElem? fun j => ?_
  rw [getElem?_slice, getElem?_slice, getElem?_patch h]
  split_ifs
  · omega
  · rfl
  · rfl

/-- A slice around a patch. -/
theorem slice_patch_inside {f b : List Byte} {i : Nat} (h : i + b.length ≤ f.length) {k n : Nat} (low : k ≤ i)
    (high : i + b.length ≤ k + n) : slice (patch f i b) k n =
      slice f k (i - k) ++ b ++ slice f (i + b.length) (k + n - (i + b.length)) := by
  have front : (slice f k (i - k)).length = i - k := length_slice (by omega)
  have both : (slice f k (i - k) ++ b).length = i - k + b.length := by rw [List.length_append, front]
  refine List.ext_getElem? fun j => ?_
  rw [getElem?_slice, getElem?_patch h]
  rcases Nat.lt_or_ge j (i - k) with before | before
  · rw [if_pos (by omega), if_neg (by omega), List.getElem?_append_left (by omega), List.getElem?_append_left (by omega),
      getElem?_slice, if_pos before]
  · rcases Nat.lt_or_ge j (i - k + b.length) with inside | inside
    · rw [if_pos (by omega), if_pos (by omega), List.getElem?_append_left (by omega),
        List.getElem?_append_right (by omega), front]
      congr 1
      omega
    · rw [List.getElem?_append_right (by omega), both, getElem?_slice]
      by_cases fits : j < n
      · rw [if_pos fits, if_neg (by omega), if_pos (by omega)]
        congr 1
        omega
      · rw [if_neg fits, if_neg (by omega)]

theorem getD_patch_outside {f b : List Byte} {i j : Nat} (h : i + b.length ≤ f.length)
    (outside : j < i ∨ i + b.length ≤ j) : (patch f i b).getD j 0 = f.getD j 0 := by
  rw [List.getD_eq_getElem?_getD, getElem?_patch h, if_neg (by omega), ← List.getD_eq_getElem?_getD]

/-! ### Ones'-complement sums -/

theorem ocAdd_lt {a b : Nat} (ha : a < 2 ^ 16) (hb : b < 2 ^ 16) : ocAdd a b < 2 ^ 16 := by
  unfold ocAdd
  split_ifs <;> omega

theorem ocAdd_comm (a b : Nat) : ocAdd a b = ocAdd b a := by
  unfold ocAdd
  rw [Nat.add_comm]

theorem ocAdd_assoc {a b c : Nat} (ha : a < 2 ^ 16) (hb : b < 2 ^ 16) (hc : c < 2 ^ 16) :
    ocAdd (ocAdd a b) c = ocAdd a (ocAdd b c) := by
  unfold ocAdd
  split_ifs <;> omega

theorem ocSum_lt : ∀ l : List Byte, ocSum l < 2 ^ 16
  | [] => by decide
  | [a] => by have := a.isLt; rw [ocSum]; omega
  | a :: b :: rest => ocAdd_lt (by have := a.isLt; have := b.isLt; omega) (ocSum_lt rest)

theorem ocAdd_zero {a : Nat} (h : a < 2 ^ 16) : ocAdd 0 a = a := by
  rw [ocAdd, if_pos (by omega), Nat.zero_add]

/-- The sum of two lists, the first of an even number of bytes. -/
theorem ocSum_append : ∀ {l : List Byte} (r : List Byte), l.length % 2 = 0 →
    ocSum (l ++ r) = ocAdd (ocSum l) (ocSum r)
  | [], r, _ => (ocAdd_zero (ocSum_lt r)).symm
  | [a], _, even => by simp at even
  | a :: b :: rest, r, even => by
    have := a.isLt
    have := b.isLt
    rw [List.cons_append, List.cons_append, ocSum, ocSum, ocSum_append r (by simp only [List.length_cons] at even; omega),
      ocAdd_assoc (by omega) (ocSum_lt rest) (ocSum_lt r)]

theorem length_beBytes (v n : Nat) : (beBytes v n).length = n := by
  induction n with
  | zero => rfl
  | succ n ih => rw [beBytes, List.length_cons, ih]

theorem ocSum_beBytes {v : Nat} (h : v < 2 ^ 16) : ocSum (beBytes v 2) = v := by
  simp only [beBytes, ocSum, BitVec.toNat_ofNat]
  rw [ocAdd, if_pos (by omega)]
  omega

/-- The sum of a list with a 16-bit word in it, at an even place. -/
theorem ocSum_word {l r : List Byte} {v : Nat} (even : l.length % 2 = 0) (h : v < 2 ^ 16) :
    ocSum (l ++ beBytes v 2 ++ r) = ocAdd v (ocAdd (ocSum l) (ocSum r)) := by
  have hl := ocSum_lt l
  have hr := ocSum_lt r
  rw [ocSum_append r (by rw [List.length_append, length_beBytes]; omega), ocSum_append _ even, ocSum_beBytes h,
    ocAdd_comm (ocSum l), ocAdd_assoc h hl hr]

/-- A checksum that is the complement of the sum without it, 0 replaced or not, makes the sum all ones. -/
theorem ocSum_filled {l r : List Byte} (even : l.length % 2 = 0) {v : Nat}
    (h : v = ocNot (ocSum (l ++ [0, 0] ++ r)) ∨ (ocNot (ocSum (l ++ [0, 0] ++ r)) = 0 ∧ v = 0xFFFF)) :
    ocSum (l ++ beBytes v 2 ++ r) = 0xFFFF := by
  have rest := ocAdd_lt (ocSum_lt l) (ocSum_lt r)
  have empty : ocSum (l ++ [0, 0] ++ r) = ocAdd (ocSum l) (ocSum r) :=
    (ocSum_word (v := 0) even (by decide)).trans (ocAdd_zero rest)
  rw [empty] at h
  rw [ocSum_word even (by rw [ocNot] at h; omega)]
  generalize ocAdd (ocSum l) (ocSum r) = sum at h rest
  rw [ocNot] at h
  rw [ocAdd]
  split <;> omega

/-! ### The IP header -/

theorem parseFrame_len (vlan : Word) (m : Nat) (f : List Byte) : (parseFrame vlan m f).len = m := by
  unfold parseFrame
  simp only
  split <;> rfl

/-- The network header is the one the ethertype names, where there is an ethertype (43_classifier R402). -/
theorem parseFrame_net (vlan : Word) (m : Nat) (f : List Byte) : (parseFrame vlan m f).net =
    match (parseFrame vlan m f).et with
    | some et => parseNet m (parseFrame vlan m f).l3 et f
    | none => .other := by
  unfold parseFrame
  simp only
  split <;> rfl

theorem parseNet_eq_ipv4_iff (m l3 et l4 : Nat) (f : List Byte) : parseNet m l3 et f = .ipv4 l4 ↔
    et = 0x0800 ∧ l3 + 20 ≤ m ∧ byteAt f l3 / 16 = 4 ∧ 20 ≤ 4 * (byteAt f l3 % 16)
      ∧ l3 + 4 * (byteAt f l3 % 16) ≤ m ∧ l4 = l3 + 4 * (byteAt f l3 % 16) := by
  rw [Nat.mul_comm 4]
  unfold parseNet
  simp only
  split_ifs with ipv4 ipv6
  · simp only [Net.ipv4.injEq]
    tauto
  · simp only [false_iff]
    tauto
  · simp only [false_iff]
    tauto

theorem parseNet_eq_ipv6_iff (m l3 et l4 : Nat) (f : List Byte) : parseNet m l3 et f = .ipv6 l4 ↔
    et = 0x86DD ∧ l3 + 40 ≤ m ∧ byteAt f l3 / 16 = 6 ∧ l4 = l3 + 40 := by
  unfold parseNet
  simp only
  split_ifs with ipv4 ipv6
  · simp only [false_iff]
    omega
  · simp only [Net.ipv6.injEq]
    tauto
  · simp only [false_iff]
    tauto

section Parse

variable (vlan : Word) (f : List Byte)

theorem net_eq_ipv4_iff (l4 : Nat) : (parseFrame vlan f.length f).net = .ipv4 l4 ↔
    let p := parseFrame vlan f.length f
    p.et = some 0x0800 ∧ p.l3 + 20 ≤ f.length ∧ byteAt f p.l3 / 16 = 4 ∧ 20 ≤ 4 * (byteAt f p.l3 % 16)
      ∧ p.l3 + 4 * (byteAt f p.l3 % 16) ≤ f.length ∧ l4 = p.l3 + 4 * (byteAt f p.l3 % 16) := by
  rw [parseFrame_net]
  cases h : (parseFrame vlan f.length f).et with
  | none => simp [h]
  | some et => simp [h, parseNet_eq_ipv4_iff]

theorem net_eq_ipv6_iff (l4 : Nat) : (parseFrame vlan f.length f).net = .ipv6 l4 ↔
    let p := parseFrame vlan f.length f
    p.et = some 0x86DD ∧ p.l3 + 40 ≤ f.length ∧ byteAt f p.l3 / 16 = 6 ∧ l4 = p.l3 + 40 := by
  rw [parseFrame_net]
  cases h : (parseFrame vlan f.length f).et with
  | none => simp [h]
  | some et => simp [h, parseNet_eq_ipv6_iff]

end Parse

/-! ### The code -/

/-- The frame is an IPv4 fragment (30_encoding R151). -/
def ipFragment (p : Parsed) (f : List Byte) : Bool :=
  match p.net with
  | .ipv4 _ => p.moreFragments f || decide (p.fragOffset f ≠ 0)
  | _ => false

/-- The place of the checksum in a TCP or UDP header (R325). -/
def checksumPlace (proto l4 : Nat) : Nat := if proto = 17 then l4 + 6 else l4 + 16

theorem checksumOffload_of_none {vlan : Word} {f : List Byte} (h : (parseFrame vlan f.length f).l4 = none) :
    checksumOffload vlan f = (f, 3) := by
  simp only [checksumOffload, h]

theorem checksumOffload_eq {vlan : Word} {f : List Byte} {l4 : Nat} (h : (parseFrame vlan f.length f).l4 = some l4) :
    checksumOffload vlan f =
      let p := parseFrame vlan f.length f
      let proto := p.protocol f
      let stop := datagramEnd p f
      if ipFragment p f then (f, 5)
      else if proto ≠ 6 ∧ proto ≠ 17 then (f, 6)
      else if f.length < stop ∨ headerCut proto l4 stop f then (f, 7)
      else (setL4Checksum p proto l4 stop (checksumPlace proto l4) (setIpChecksum p f), 0) := by
  simp only [checksumOffload, h]
  rfl

/-- A frame the offload fills: not a fragment, TCP or UDP, and room for the transport header inside the datagram and for the
datagram inside the frame (R325). -/
structure Offloaded (p : Parsed) (f : List Byte) (l4 : Nat) : Prop where
  whole : ipFragment p f = false
  proto : p.protocol f = 6 ∨ p.protocol f = 17
  stop  : datagramEnd p f ≤ f.length
  room  : headerCut (p.protocol f) l4 (datagramEnd p f) f = false

theorem checksumOffload_code_zero {vlan : Word} {f g : List Byte} {l4 : Nat}
    (h : (parseFrame vlan f.length f).l4 = some l4) (done : checksumOffload vlan f = (g, 0)) :
    let p := parseFrame vlan f.length f
    Offloaded p f l4 ∧ g = setL4Checksum p (p.protocol f) l4 (datagramEnd p f) (checksumPlace (p.protocol f) l4)
      (setIpChecksum p f) := by
  rw [checksumOffload_eq h] at done
  simp only at done
  split_ifs at done with fragment proto cut
  · simp at done
  · simp at done
  · simp at done
  · cases done
    exact ⟨⟨by simpa using fragment, by omega, by omega, by simpa using (not_or.mp cut).2⟩, rfl⟩

theorem checksumOffload_unchanged {vlan : Word} {f g : List Byte} {ck : Nat} (done : checksumOffload vlan f = (g, ck))
    (code : ck ≠ 0) : g = f := by
  cases h : (parseFrame vlan f.length f).l4 with
  | none =>
    rw [checksumOffload_of_none h] at done
    exact (congrArg Prod.fst done).symm
  | some l4 =>
    rw [checksumOffload_eq h] at done
    simp only at done
    split_ifs at done
    · exact (congrArg Prod.fst done).symm
    · exact (congrArg Prod.fst done).symm
    · exact (congrArg Prod.fst done).symm
    · exact absurd (congrArg Prod.snd done).symm code

/-- The header does not fit before the datagram's end (R325), for a TCP or UDP header. -/
theorem headerCut_iff (proto l4 stop : Nat) (f : List Byte) (known : proto = 6 ∨ proto = 17) :
    headerCut proto l4 stop f = true ↔ (proto = 17 ∧ stop < l4 + 8)
      ∨ (proto = 6 ∧ (4 * (byteAt f (l4 + 12) / 16) < 20 ∨ stop < l4 + 20 ∨ stop < l4 + 4 * (byteAt f (l4 + 12) / 16))) := by
  rw [Nat.mul_comm 4]
  rcases known with rfl | rfl
  · simp [headerCut]
    tauto
  · simp [headerCut]

/-- The code of a frame with a valid IP header (R325). -/
theorem checksumOffload_code {vlan : Word} {f g : List Byte} {ck l4 : Nat} (h : (parseFrame vlan f.length f).l4 = some l4)
    (done : checksumOffload vlan f = (g, ck)) :
    let p := parseFrame vlan f.length f
    let dataOff := 4 * (byteAt f (l4 + 12) / 16)
    ck = if ipFragment p f = true then 5
      else if p.protocol f ≠ 6 ∧ p.protocol f ≠ 17 then 6
      else if f.length < datagramEnd p f ∨ (p.protocol f = 17 ∧ datagramEnd p f < l4 + 8)
        ∨ (p.protocol f = 6 ∧ (dataOff < 20 ∨ datagramEnd p f < l4 + 20 ∨ datagramEnd p f < l4 + dataOff)) then 7
      else 0 := by
  rw [checksumOffload_eq h] at done
  simp only at done ⊢
  by_cases proto : (parseFrame vlan f.length f).protocol f ≠ 6 ∧ (parseFrame vlan f.length f).protocol f ≠ 17
  · rw [if_pos proto] at done ⊢
    split_ifs at done ⊢ <;> cases done <;> rfl
  · simp only [headerCut_iff ((parseFrame vlan f.length f).protocol f) l4 _ f (by omega)] at done
    split_ifs at done ⊢ <;> cases done <;> rfl

/-! ### The checksums -/

/-- A checksum put into a slice behind a list `h`, as the complement of the sum without it (0 replaced or not). -/
theorem ocSum_patched {f h : List Byte} {i k n v : Nat} (fits : i + 2 ≤ f.length) (low : k ≤ i) (high : i + 2 ≤ k + n)
    (even : (h.length + (i - k)) % 2 = 0)
    (hv : v = ocNot (ocSum (h ++ slice (patch f i [0, 0]) k n))
      ∨ (ocNot (ocSum (h ++ slice (patch f i [0, 0]) k n)) = 0 ∧ v = 0xFFFF)) :
    ocSum (h ++ slice (patch f i (beBytes v 2)) k n) = 0xFFFF := by
  have front : (h ++ slice f k (i - k)).length % 2 = 0 := by
    rw [List.length_append, length_slice (by omega)]
    exact even
  rw [slice_patch_inside (b := [0, 0]) fits low high, ← List.append_assoc, ← List.append_assoc] at hv
  rw [slice_patch_inside (by rw [length_beBytes]; exact fits) low (by rw [length_beBytes]; exact high),
    ← List.append_assoc, ← List.append_assoc, length_beBytes]
  exact ocSum_filled front hv

theorem be16_patch {f : List Byte} {i v : Nat} (fits : i + 2 ≤ f.length) (h : v < 2 ^ 16) :
    be16 (patch f i (beBytes v 2)) i = v := by
  have fits' : i + (beBytes v 2).length ≤ f.length := by rw [length_beBytes]; exact fits
  simp only [be16, byteAt, List.getD_eq_getElem?_getD, getElem?_patch fits', length_beBytes]
  rw [if_pos (by omega), if_pos (by omega), Nat.sub_self, Nat.add_sub_cancel_left]
  simp only [beBytes, List.getElem?_cons_zero, List.getElem?_cons_succ, Option.getD_some, BitVec.toNat_ofNat]
  omega

section Fill

variable {p : Parsed} {f : List Byte} {l4 : Nat}

/-- The frame with its IPv4 header checksum, as one patch (R325). -/
theorem setIpChecksum_ipv4 (net : p.net = .ipv4 l4) (fits : p.l3 + 12 ≤ f.length) : setIpChecksum p f =
    patch f (p.l3 + 10) (beBytes (ocNot (ocSum (slice (patch f (p.l3 + 10) [0, 0]) p.l3 (l4 - p.l3)))) 2) := by
  simp only [setIpChecksum, net]
  exact patch_patch fits (length_beBytes _ _)

theorem setIpChecksum_ipv6 (net : p.net = .ipv6 l4) : setIpChecksum p f = f := by
  simp only [setIpChecksum, net]

/-- The checksum a segment takes: the complement of its sum without one; for UDP, 0 is sent as all ones (R325). -/
def segmentChecksum (p : Parsed) (proto l4 stop ck : Nat) (f : List Byte) : Nat :=
  let g := patch f ck [0, 0]
  let sum := ocNot (ocSum (pseudoHeader p proto (stop - l4) g ++ slice g l4 (stop - l4)))
  if proto = 17 ∧ sum = 0 then 0xFFFF else sum

theorem setL4Checksum_eq {proto stop ck : Nat} (fits : ck + 2 ≤ f.length) : setL4Checksum p proto l4 stop ck f =
    patch f ck (beBytes (segmentChecksum p proto l4 stop ck f) 2) :=
  patch_patch fits (length_beBytes _ _)

theorem segmentChecksum_lt (p : Parsed) (proto l4 stop ck : Nat) (f : List Byte) :
    segmentChecksum p proto l4 stop ck f < 2 ^ 16 := by
  unfold segmentChecksum ocNot
  simp only
  split <;> omega

/-- The IP header of a parsed frame lies inside it, before layer 4 (43_classifier R402). -/
structure IpInside (p : Parsed) (f : List Byte) (l4 : Nat) : Prop where
  header : (p.net = .ipv4 l4 ∧ p.l3 + 20 ≤ l4) ∨ (p.net = .ipv6 l4 ∧ p.l3 + 40 ≤ l4)
  inside : l4 ≤ f.length

theorem ipInside_of_l4 {vlan : Word} (h : (parseFrame vlan f.length f).l4 = some l4) :
    IpInside (parseFrame vlan f.length f) f l4 := by
  cases net : (parseFrame vlan f.length f).net with
  | ipv4 k =>
    obtain rfl : k = l4 := by simpa [Parsed.l4, net] using h
    obtain ⟨-, -, -, long, inside, rfl⟩ := (net_eq_ipv4_iff vlan f k).mp net
    exact ⟨.inl ⟨net, by omega⟩, inside⟩
  | ipv6 k =>
    obtain rfl : k = l4 := by simpa [Parsed.l4, net] using h
    obtain ⟨-, inside, -, rfl⟩ := (net_eq_ipv6_iff vlan f k).mp net
    exact ⟨.inr ⟨net, by omega⟩, inside⟩
  | other => simp [Parsed.l4, net] at h

/-- The pseudo-header does not see a patch behind the IP header. -/
theorem pseudoHeader_patch (ip : IpInside p f l4) {i : Nat} {b : List Byte} (fits : i + b.length ≤ f.length)
    (behind : l4 ≤ i) (proto n : Nat) : pseudoHeader p proto n (patch f i b) = pseudoHeader p proto n f := by
  rcases ip.header with ⟨net, room⟩ | ⟨net, room⟩
  · simp only [pseudoHeader, net, slice_patch_outside fits (show p.l3 + 12 + 8 ≤ i ∨ _ from .inl (by omega))]
  · simp only [pseudoHeader, net, slice_patch_outside fits (show p.l3 + 8 + 32 ≤ i ∨ _ from .inl (by omega))]

theorem pseudoHeader_even (ip : IpInside p f l4) (proto n : Nat) : (pseudoHeader p proto n f).length % 2 = 0 := by
  have inside := ip.inside
  rcases ip.header with ⟨net, room⟩ | ⟨net, room⟩
  · have addresses := length_slice (f := f) (i := p.l3 + 12) (n := 8) (by omega)
    simp [pseudoHeader, net, addresses, length_beBytes]
  · have addresses := length_slice (f := f) (i := p.l3 + 8) (n := 32) (by omega)
    simp [pseudoHeader, net, addresses, length_beBytes]

theorem length_setIpChecksum (ip : IpInside p f l4) : (setIpChecksum p f).length = f.length := by
  have inside := ip.inside
  rcases ip.header with ⟨net, room⟩ | ⟨net, room⟩
  · rw [setIpChecksum_ipv4 net (by omega), length_patch (by rw [length_beBytes]; omega)]
  · rw [setIpChecksum_ipv6 net]

/-- The offload's IPv4 header sums to all ones (R325). -/
theorem ocSum_setIpChecksum (ip : IpInside p f l4) (net : p.net = .ipv4 l4) :
    ocSum (slice (setIpChecksum p f) p.l3 (l4 - p.l3)) = 0xFFFF := by
  have inside := ip.inside
  have room : p.l3 + 20 ≤ l4 := by
    rcases ip.header with ⟨-, room⟩ | ⟨other, -⟩
    · exact room
    · rw [net] at other; cases other
  rw [setIpChecksum_ipv4 net (by omega)]
  exact ocSum_patched (h := []) (by omega) (by omega) (by omega) (by simp) (.inl rfl)

theorem getD_setIpChecksum (ip : IpInside p f l4) {i : Nat}
    (outside : p.net = .ipv4 l4 → i ≠ p.l3 + 10 ∧ i ≠ p.l3 + 11) : (setIpChecksum p f).getD i 0 = f.getD i 0 := by
  have inside := ip.inside
  rcases ip.header with ⟨net, room⟩ | ⟨net, room⟩
  · obtain ⟨first, second⟩ := outside net
    rw [setIpChecksum_ipv4 net (by omega)]
    exact getD_patch_outside (by rw [length_beBytes]; omega) (by rw [length_beBytes]; omega)
  · rw [setIpChecksum_ipv6 net]

/-- The checksum of an offloaded segment lies inside it, at an even place. -/
theorem checksumPlace_spec (h : Offloaded p f l4) :
    l4 ≤ checksumPlace (p.protocol f) l4 ∧ checksumPlace (p.protocol f) l4 + 2 ≤ datagramEnd p f
      ∧ (checksumPlace (p.protocol f) l4 - l4) % 2 = 0 := by
  have room := h.room
  rw [← Bool.not_eq_true, headerCut_iff _ _ _ _ h.proto] at room
  unfold checksumPlace
  rcases h.proto with proto | proto
  · rw [if_neg (by omega)]
    omega
  · rw [if_pos proto]
    omega

/-- The offloaded frame (R325). -/
def filledFrame (p : Parsed) (f : List Byte) (l4 : Nat) : List Byte :=
  setL4Checksum p (p.protocol f) l4 (datagramEnd p f) (checksumPlace (p.protocol f) l4) (setIpChecksum p f)

/-- The checksum of the offloaded segment (R325). -/
def filledChecksum (p : Parsed) (f : List Byte) (l4 : Nat) : Nat :=
  segmentChecksum p (p.protocol f) l4 (datagramEnd p f) (checksumPlace (p.protocol f) l4) (setIpChecksum p f)

theorem checksumPlace_inside (filled : Offloaded p f l4) (ip : IpInside p f l4) :
    checksumPlace (p.protocol f) l4 + 2 ≤ (setIpChecksum p f).length := by
  obtain ⟨-, high, -⟩ := checksumPlace_spec filled
  rw [length_setIpChecksum ip]
  exact high.trans filled.stop

theorem filledFrame_eq (filled : Offloaded p f l4) (ip : IpInside p f l4) : filledFrame p f l4 =
    patch (setIpChecksum p f) (checksumPlace (p.protocol f) l4) (beBytes (filledChecksum p f l4) 2) :=
  setL4Checksum_eq (checksumPlace_inside filled ip)

theorem length_filledFrame (filled : Offloaded p f l4) (ip : IpInside p f l4) :
    (filledFrame p f l4).length = f.length := by
  rw [filledFrame_eq filled ip, length_patch (checksumPlace_inside filled ip), length_setIpChecksum ip]

/-- The segment's checksum leaves the IPv4 header as it is. -/
theorem ocSum_header_filledFrame (filled : Offloaded p f l4) (ip : IpInside p f l4) (net : p.net = .ipv4 l4) :
    ocSum (slice (filledFrame p f l4) p.l3 (l4 - p.l3)) = 0xFFFF := by
  obtain ⟨low, -, -⟩ := checksumPlace_spec filled
  have order : p.l3 ≤ l4 := by
    rcases ip.header with ⟨-, room⟩ | ⟨-, room⟩ <;> omega
  rw [filledFrame_eq filled ip, slice_patch_outside (checksumPlace_inside filled ip) (.inl (by omega)),
    ocSum_setIpChecksum ip net]

theorem ocSum_segment_filledFrame (filled : Offloaded p f l4) (ip : IpInside p f l4) :
    ocSum (pseudoHeader p (p.protocol f) (datagramEnd p f - l4) (filledFrame p f l4)
      ++ slice (filledFrame p f l4) l4 (datagramEnd p f - l4)) = 0xFFFF := by
  obtain ⟨low, high, even⟩ := checksumPlace_spec filled
  have fits := checksumPlace_inside filled ip
  have ip' : IpInside p (setIpChecksum p f) l4 := ⟨ip.header, by rw [length_setIpChecksum ip]; exact ip.inside⟩
  have pseudoEven := pseudoHeader_even ip' (p.protocol f) (datagramEnd p f - l4)
  rw [filledFrame_eq filled ip, pseudoHeader_patch ip' fits low]
  refine ocSum_patched fits low (by omega) (by omega) ?_
  simp only [filledChecksum, segmentChecksum, pseudoHeader_patch ip' (b := [0, 0]) fits low]
  split <;> omega

/-- The checksum of an offloaded UDP datagram is not 0 (R325). -/
theorem udpChecksum_filledFrame (filled : Offloaded p f l4) (ip : IpInside p f l4) (udp : p.protocol f = 17) :
    be16 (filledFrame p f l4) (l4 + 6) ≠ 0 := by
  have place : l4 + 6 = checksumPlace (p.protocol f) l4 := by rw [checksumPlace, if_pos udp]
  have small : filledChecksum p f l4 < 2 ^ 16 := segmentChecksum_lt ..
  rw [filledFrame_eq filled ip, place, be16_patch (checksumPlace_inside filled ip) small]
  simp only [filledChecksum, segmentChecksum]
  split <;> omega

theorem getD_filledFrame (filled : Offloaded p f l4) (ip : IpInside p f l4) {i : Nat}
    (header : p.net = .ipv4 l4 → i ≠ p.l3 + 10 ∧ i ≠ p.l3 + 11) (first : i ≠ checksumPlace (p.protocol f) l4)
    (second : i ≠ checksumPlace (p.protocol f) l4 + 1) : (filledFrame p f l4).getD i 0 = f.getD i 0 := by
  rw [filledFrame_eq filled ip, getD_patch_outside (checksumPlace_inside filled ip) (by rw [length_beBytes]; omega),
    getD_setIpChecksum ip header]

/-! ### The fields of the IP header, by its version -/

theorem Parsed.l4_eq_some_iff {p : Parsed} {l4 : Nat} : p.l4 = some l4 ↔ p.net = .ipv4 l4 ∨ p.net = .ipv6 l4 := by
  cases net : p.net <;> simp [Parsed.l4, net]

theorem ipFragment_iff {v4 : Bool} (net : p.net = .ipv4 l4 ∧ v4 = true ∨ p.net = .ipv6 l4 ∧ v4 = false) :
    ipFragment p f = true ↔ v4 ∧ ((be16 f (p.l3 + 6)).testBit 13 ∨ be16 f (p.l3 + 6) % 2 ^ 13 ≠ 0) := by
  rcases net with ⟨net, rfl⟩ | ⟨net, rfl⟩
  · simp only [ipFragment, net, Parsed.moreFragments, Parsed.fragOffset, Bool.or_eq_true, true_and]
    exact or_congr_right decide_eq_true_iff
  · simp [ipFragment, net]

theorem protocol_eq {v4 : Bool} (net : p.net = .ipv4 l4 ∧ v4 = true ∨ p.net = .ipv6 l4 ∧ v4 = false) :
    p.protocol f = byteAt f (p.l3 + if v4 then 9 else 6) := by
  rcases net with ⟨net, rfl⟩ | ⟨net, rfl⟩ <;> simp [Parsed.protocol, net]

theorem datagramEnd_eq {v4 : Bool} (net : p.net = .ipv4 l4 ∧ v4 = true ∨ p.net = .ipv6 l4 ∧ v4 = false) :
    datagramEnd p f = if v4 then p.l3 + be16 f (p.l3 + 2) else p.l3 + 40 + be16 f (p.l3 + 4) := by
  rcases net with ⟨net, rfl⟩ | ⟨net, rfl⟩ <;> simp [datagramEnd, net]

end Fill

/-- Settles O42: a frame without a valid IP header gets code 3, and code 0 stands for the filled frame. -/
theorem checksumsVerify : Obligations.ChecksumsVerify := by
  intro vlan f g ck done p ihl
  refine ⟨net_eq_ipv4_iff vlan f, net_eq_ipv6_iff vlan f, fun other => ?_, fun l4 v4 net => ?_,
    checksumOffload_unchanged done, ?_⟩
  · have none : p.l4 = none := by simp only [Parsed.l4, other]
    rw [checksumOffload_of_none none] at done
    exact (congrArg Prod.snd done).symm
  · have valid : p.l4 = some l4 := Parsed.l4_eq_some_iff.mpr (net.imp And.left And.left)
    have code := checksumOffload_code valid done
    simp only [← protocol_eq (f := f) net, ← datagramEnd_eq (f := f) net, ← ipFragment_iff (f := f) net]
    exact code
  · rintro rfl
    have verifies : ∀ l4, p.l4 = some l4 → Offloaded p f l4 ∧ IpInside p f l4 ∧ g = filledFrame p f l4 := by
      intro l4 valid
      obtain ⟨filled, eq⟩ := checksumOffload_code_zero valid done
      exact ⟨filled, ipInside_of_l4 valid, eq⟩
    refine ⟨?_, fun l4 net => ?_, fun l4 valid => ?_⟩
    · cases valid : p.l4 with
      | none =>
        rw [checksumOffload_of_none valid] at done
        simp at done
      | some l4 =>
        obtain ⟨filled, ip, rfl⟩ := verifies l4 valid
        exact length_filledFrame filled ip
    · obtain ⟨filled, ip, rfl⟩ := verifies l4 (Parsed.l4_eq_some_iff.mpr (.inl net))
      exact ocSum_header_filledFrame filled ip net
    · obtain ⟨filled, ip, rfl⟩ := verifies l4 valid
      refine ⟨ocSum_segment_filledFrame filled ip, udpChecksum_filledFrame filled ip, fun i header first second =>
        getD_filledFrame filled ip header ?_ ?_⟩
      · rw [checksumPlace]
        split_ifs at first ⊢ <;> exact first
      · rw [checksumPlace]
        split_ifs at second ⊢ <;> exact second

end Sys2Proof.Machine
end

section
/-! PROOF. Which device receives an arriving frame, after the accounting of its MMSL (42_rx_ring R355, R370; 45_mmsl
R540-R545). -/

namespace Sys2Proof.Machine

theorem Mmsl.countRx_eq (y : Mmsl) (k : Nat) (aerr : Bool) : y.countRx k aerr = mmslAccounted y k aerr := by
  cases aerr with
  | true => simp [Mmsl.countRx, mmslAccounted, mmAerr]
  | false => by_cases several : 2 ≤ k <;> simp [Mmsl.countRx, mmslAccounted, several]

/-- The line may offer a frame (42_rx_ring R355). -/
theorem arrivalOffered_iff (a : Arrival) (y : Mmsl) : arrivalOffered a y = true ↔
    a.frame ≠ [] ∧ 1 ≤ a.frags ∧ (a.cls = .express → a.frags = 1 ∧ a.aerr = false)
      ∧ (a.cls = .preemptable → y.control.getLsbD 2 = true) := by
  simp only [arrivalOffered, mmPen]
  cases a.cls <;> simp [and_assoc]

/-- An arriving frame is passed over (42_rx_ring R355; 41_tx_ring R333; log 3). -/
def rxPassed (m : Mac) (a : Arrival) (dr : RxDraws) (s : State) : Bool :=
  !arrivalOffered a (s.mmsl m) || ncrLbLocal (s.dev (rxTarget s m a.cls)).ncr
    || !rxDrawsInSet dr (s.cfg.nQueues (rxTarget s m a.cls))

/-- The state after the accounting of an arriving frame (45_mmsl R543-R545). -/
def rxAccounted (m : Mac) (a : Arrival) (s : State) : State :=
  s.setMmsl m (if a.cls = .preemptable then mmslAccounted (s.mmsl m) a.frags a.aerr else s.mmsl m)

theorem runRxFrame_eq (m : Mac) (a : Arrival) (dr : RxDraws) (s : State) : runInput (.rxFrame m a dr) s =
    if rxPassed m a dr s then .next s
    else if a.aerr then .next (rxAccounted m a s)
    else rxDevice (rxTarget s m a.cls) a.frame dr (rxAccounted m a s) := by
  have accounted : (if a.cls = .preemptable then modMmsl s m fun y => y.countRx a.frags a.aerr else s)
      = rxAccounted m a s := by
    unfold rxAccounted
    split
    · rw [modMmsl, Mmsl.countRx_eq]
    · exact (s.setMmsl_mmsl m).symm
  simp only [runInput, runRxFrame, accounted]
  rfl

/-- A device that does not receive passes a frame over (42_rx_ring R370). -/
theorem rxDevice_disabled {d : Dev} {s : State} (f : List Byte) (dr : RxDraws) (off : ncrRe (s.dev d).ncr = false) :
    rxDevice d f dr s = .next s := by
  simp [rxDevice, off]

/-- Settles O44: the conditions of an offer, then the accounting and the device, which RE 0 leaves as it is. -/
theorem rxFrameRouted : Obligations.RxFrameRouted := by
  intro m a dr s control d offered accounted
  have target : rxTarget s m a.cls = d := rfl
  have passed : rxPassed m a dr s = false ↔ offered := by
    simp only [rxPassed, target, Bool.or_eq_false_iff, Bool.not_eq_false', arrivalOffered_iff, rxDrawsInSet_iff]
    tauto
  rw [runRxFrame_eq, target]
  refine ⟨fun h whole => ?_, fun h broken => ?_, fun h off => ?_, fun h => ?_⟩
  · rw [passed.mpr h, whole]
    rfl
  · rw [passed.mpr h, broken]
    rfl
  · rw [passed.mpr h, rxDevice_disabled a.frame dr (by rw [rxAccounted, State.setMmsl_dev]; exact off), ite_self]
    rfl
  · rw [if_pos (by simpa using mt passed.mp h)]

end Sys2Proof.Machine
end

section
/-! PROOF. What a received frame makes of its device (42_rx_ring R358, R366, R367, R371, R372): the counters of its checks
and the event it is (43_classifier R408; 44_tsu R482), and then one of four ends. -/

namespace Sys2Proof.Machine

/-! ### A frame whose checks are counted -/

theorem Device.setRsr_zero (x : Device) : x.setRsr 0 = x := congrArg (fun v => { x with rsr := v }) BitVec.or_zero

theorem Device.setRxCur_self (x : Device) (t : Fin 4) : x.setRxCur t (x.queue t).rxCur = x := x.setQueue_queue t

theorem Device.queue_setRxCur (x : Device) (t q : Fin 4) (a : Word) : (x.setRxCur t a).queue q =
    { x.queue q with rxCur := if q = t then a else (x.queue q).rxCur } := by
  rw [Device.setRxCur, Device.queue_modQueue]
  by_cases own : q = t
  · simp [own]
  · simp [own]

theorem Device.ptpRxEvent_eq (x : Device) (k : Nat) :
    x.ptpRxEvent k = { x with ptp := rxEventRegs x (some k) }.irq 0 (rxEventBit (some k)) :=
  match k with
  | 0 | 1 | 2 | 3 => rfl
  | _ + 4 => (Device.irq_zero x 0).symm

/-- The counters that a frame's checks count. -/
def rxCheckStats (x : Device) (f : List Byte) (ok : Bool) : List Stat :=
  (rxChecks x.ncfgr x.jml (parseFrame x.stackedVlan (f.length - 4) f) f.length ok).1

/-- The device with a frame's checks counted and its event recorded (43_classifier R408; 44_tsu R482). -/
def Device.rxNoted (x : Device) (f : List Byte) (ok : Bool) : Device :=
  match eventKind (rxMessage x f) with
  | some k => (x.countAll (rxCheckStats x f ok)).ptpRxEvent k
  | none => x.countAll (rxCheckStats x f ok)

theorem Device.rxNoted_eq (x : Device) (f : List Byte) (ok : Bool) : x.rxNoted f ok =
    { x with
      stats := (x.countAll (rxCheckStats x f ok)).stats
      ptp := rxEventRegs x (eventKind (rxMessage x f)) }.irq 0 (rxEventBit (eventKind (rxMessage x f))) := by
  unfold Device.rxNoted
  cases eventKind (rxMessage x f) with
  | none => exact (x.countAll_eq _).trans (Device.irq_zero _ 0).symm
  | some k =>
    simp only [Device.ptpRxEvent_eq]
    rw [Device.countAll_eq]
    rfl

/-! ### The ends of a frame -/

/-- How a frame ends at its device: the bits RSR and the queue's status register take, the octets and the counters. -/
structure RxEnd where
  rsr      : Word
  isr      : Word
  octets   : Nat
  counters : List Stat

/-- A frame discarded without a trace (43_classifier R412, R441). -/
def RxEnd.discarded : RxEnd := ⟨0, 0, 0, []⟩

/-- A resource error (42_rx_ring R358). -/
def RxEnd.resourceError : RxEnd := ⟨1, 4, 0, [.resourceErrorsRx]⟩

/-- A bus error (42_rx_ring R372). -/
def RxEnd.busError : RxEnd := ⟨8, 0x800, 0, []⟩

/-- A stored frame (42_rx_ring R366, R367). -/
def RxEnd.stored (f : List Byte) : RxEnd :=
  ⟨2, 2, f.length, .framesRx :: destStats .bcastRx .mcastRx f ++ [rxSizeStat f.length]⟩

/-- The device with an end `e` of a frame in queue `t`, and that queue's pointer at `a`. -/
def Device.rxEnded (x : Device) (t : Fin 4) (a : Word) (e : RxEnd) : Device :=
  { ((x.setRxCur t a).setRsr e.rsr).irq t e.isr with octRx := bump x.octRx e.octets }.countAll e.counters

theorem bump_zero {w : Nat} (v : BitVec w) : bump v 0 = v := by
  simp [bump, v.isLt]

theorem Device.rxEnded_discarded (x : Device) (t : Fin 4) : x.rxEnded t (x.queue t).rxCur .discarded = x := by
  simp only [Device.rxEnded, RxEnd.discarded, Device.setRxCur_self, Device.setRsr_zero, Device.irq_zero, bump_zero]
  rfl

theorem Device.rxEnded_resourceError (x : Device) (t : Fin 4) :
    x.rxEnded t (x.queue t).rxCur .resourceError = x.rxResourceError t := by
  simp only [Device.rxEnded, RxEnd.resourceError, Device.setRxCur_self, bump_zero]
  rfl

theorem Device.rxEnded_busError (x : Device) (t : Fin 4) (a : Word) :
    x.rxEnded t a .busError = (x.setRxCur t a).rxBusError t := by
  simp only [Device.rxEnded, RxEnd.busError, bump_zero]
  rfl

theorem Device.rxEnded_stored (x : Device) (t : Fin 4) (a : Word) (f : List Byte) :
    x.rxEnded t a (.stored f) = (x.setRxCur t a).rxDone t f := rfl

/-! ### The whole device -/

section Ended

variable {x : Device} {f : List Byte} {ok : Bool}

theorem eq_rxSizeStat_iff (n : Nat) (k : Stat) : k = rxSizeStat n ↔
    (k = .frames64Rx ∧ n ≤ 64) ∨ (k = .frames65to127Rx ∧ 65 ≤ n ∧ n ≤ 127)
      ∨ (k = .frames128to255Rx ∧ 128 ≤ n ∧ n ≤ 255) ∨ (k = .frames256to511Rx ∧ 256 ≤ n ∧ n ≤ 511)
      ∨ (k = .frames512to1023Rx ∧ 512 ≤ n ∧ n ≤ 1023) ∨ (k = .frames1024to1518Rx ∧ 1024 ≤ n ∧ n ≤ 1518)
      ∨ (k = .frames1519Rx ∧ 1519 ≤ n) := by
  unfold rxSizeStat
  split_ifs <;> grind

/-- The counters of a stored frame are those of the rule (42_rx_ring R367). -/
theorem mem_storedCounters (f : List Byte) (long : 64 ≤ f.length) (k : Stat) :
    k ∈ (RxEnd.stored f).counters ↔ rxCounted f k = true := by
  have exact64 : f.length ≤ 64 ↔ f.length = 64 := by omega
  simp only [RxEnd.stored, List.cons_append, List.mem_cons, List.mem_append, mem_destStats, List.not_mem_nil, or_false,
    eq_rxSizeStat_iff, exact64]
  cases k <;> simp [rxCounted]

theorem nodup_storedCounters (f : List Byte) : (RxEnd.stored f).counters.Nodup := by
  have size (k : Stat) (h : k ∈ [Stat.framesRx, .bcastRx, .mcastRx]) : k ≠ rxSizeStat f.length := by
    rw [Ne, eq_rxSizeStat_iff]
    simp only [List.mem_cons, List.not_mem_nil, or_false] at h
    rcases h with rfl | rfl | rfl <;> simp
  simp only [List.mem_cons, List.not_mem_nil, or_false, forall_eq_or_imp, forall_eq, Ne] at size
  obtain ⟨frames, bcast, mcast⟩ := size
  unfold RxEnd.stored destStats
  split_ifs <;> simp [frames, bcast, mcast]

/-- `y` is `x` but for what a received frame reaches. -/
def Device.RxChanged (x y : Device) : Prop :=
  y = { x with rsr := y.rsr, queues := y.queues, ptp := y.ptp, octRx := y.octRx, stats := y.stats }

theorem Device.RxChanged.trans {y z : Device} (h : x.RxChanged y) (k : y.RxChanged z) : x.RxChanged z :=
  Eq.trans k (congrArg (fun v : Device =>
    { v with rsr := z.rsr, queues := z.queues, ptp := z.ptp, octRx := z.octRx, stats := z.stats }) h)

theorem Device.rxChanged_countAll (x : Device) (l : List Stat) : x.RxChanged (x.countAll l) := by
  unfold Device.RxChanged
  rw [Device.countAll_eq]

theorem Device.rxChanged_rxNoted (x : Device) (f : List Byte) (ok : Bool) : x.RxChanged (x.rxNoted f ok) := by
  rw [Device.rxNoted_eq]
  rfl

theorem Device.rxChanged_rxEnded (x : Device) (t : Fin 4) (a : Word) (e : RxEnd) : x.RxChanged (x.rxEnded t a e) :=
  Device.RxChanged.trans (show x.RxChanged
    { ((x.setRxCur t a).setRsr e.rsr).irq t e.isr with octRx := bump x.octRx e.octets } from rfl)
    (Device.rxChanged_countAll _ _)

/-- Device `y` is device `x` after a frame that passes the checks and ends in queue `t` with the end `e`, its pointer at
`a`. -/
structure Device.RxEnds (x y : Device) (f : List Byte) (ok : Bool) (t : Fin 4) (a : Word) (e : RxEnd) : Prop where
  rsr    : y.rsr = x.rsr ||| e.rsr
  queue  : ∀ q, y.queue q =
    { x.queue q with
      isr := (x.queue q).isr ||| (if q = t then e.isr else 0)
        ||| (if q = 0 then rxEventBit (eventKind (rxMessage x f)) else 0)
      rxCur := if q = t then a else (x.queue q).rxCur }
  ptp    : y.ptp = rxEventRegs x (eventKind (rxMessage x f))
  octets : y.octRx = bump x.octRx e.octets
  stats  : ∀ k, y.stats[statIndex k] =
    if k ∈ e.counters ∨ checkCounted (parseFrame x.stackedVlan (f.length - 4) f) f.length ok k = true then
      bump x.stats[statIndex k] 1
    else x.stats[statIndex k]
  rest   : x.RxChanged y

theorem Device.stats_rxEnded (x : Device) (t : Fin 4) (a : Word) (e : RxEnd) :
    (x.rxEnded t a e).stats = (x.countAll e.counters).stats := Device.stats_countAll_congr _ rfl

theorem Device.stats_rxNoted (x : Device) (f : List Byte) (ok : Bool) :
    (x.rxNoted f ok).stats = (x.countAll (rxCheckStats x f ok)).stats := by
  rw [Device.rxNoted_eq]
  rfl

theorem Device.queue_rxEnded (t q : Fin 4) (a : Word) (e : RxEnd) : (x.rxEnded t a e).queue q =
    { x.queue q with
      isr := (x.queue q).isr ||| if q = t then e.isr else 0
      rxCur := if q = t then a else (x.queue q).rxCur } := by
  rw [Device.rxEnded, Device.queue_countAll]
  refine (Device.queue_irq_eq ((x.setRxCur t a).setRsr e.rsr) t q e.isr).trans ?_
  rw [Device.queue_setRsr, Device.queue_setRxCur]

theorem Device.queue_rxNoted (q : Fin 4) : (x.rxNoted f ok).queue q =
    { x.queue q with
      isr := (x.queue q).isr ||| if q = 0 then rxEventBit (eventKind (rxMessage x f)) else 0 } := by
  rw [Device.rxNoted_eq, Device.queue_irq_eq]
  rfl

/-! ### Frames that pass the checks -/

variable (pass : (rxChecks x.ncfgr x.jml (parseFrame x.stackedVlan (f.length - 4) f) f.length ok).2 = true)

include pass

/-- A frame that passes the checks: how long it is, and what its checks count. -/
theorem rxChecks_pass :
    64 ≤ f.length ∧ rxCheckStats x f ok = (if ok then [] else [.fcsErrorsRx])
      ++ (if lengthFieldError (parseFrame x.stackedVlan (f.length - 4) f) f.length then [.lengthErrorsRx] else []) := by
  unfold rxCheckStats
  revert pass
  unfold rxChecks
  split_ifs with short long noFcs noLen <;> simp <;> omega

theorem rxChecks_counted :
    (rxCheckStats x f ok).Nodup
      ∧ ∀ k, k ∈ rxCheckStats x f ok
        ↔ checkCounted (parseFrame x.stackedVlan (f.length - 4) f) f.length ok k = true := by
  rw [(rxChecks_pass pass).2]
  constructor
  · split_ifs <;> decide
  · intro k
    cases k <;> simp [checkCounted]

theorem Device.rxEnded_spec (t : Fin 4) (a : Word) (e : RxEnd) (once : e.counters.Nodup)
    (apart : ∀ k ∈ e.counters, checkCounted (parseFrame x.stackedVlan (f.length - 4) f) f.length ok k = false) :
    x.RxEnds ((x.rxNoted f ok).rxEnded t a e) f ok t a e where
  rsr := by simp [Device.rxEnded, Device.setRxCur, Device.setRsr, Device.rxNoted_eq]
  queue q := by
    have bits (u v w : Word) : u ||| v ||| w = u ||| w ||| v := by ac_rfl
    rw [Device.queue_rxEnded, Device.queue_rxNoted, bits]
  ptp := by simp [Device.rxEnded, Device.setRxCur, Device.rxNoted_eq]
  octets := by simp [Device.rxEnded, Device.rxNoted_eq]
  stats k := by
    obtain ⟨nodup, counted⟩ := rxChecks_counted pass
    rw [Device.stats_rxEnded, Device.stats_countAll e.counters once, Device.stats_rxNoted,
      Device.stats_countAll _ nodup]
    simp only [counted]
    by_cases own : k ∈ e.counters
    · simp [own, apart k own]
    · simp [own]
  rest := (x.rxChanged_rxNoted f ok).trans (Device.rxChanged_rxEnded _ t a e)

/-- A frame that ends without octets is reported. -/
theorem Device.rxReported (t : Fin 4) (a rsr isr : Word) (c : Option Stat)
    (apart : ∀ k ∈ c, checkCounted (parseFrame x.stackedVlan (f.length - 4) f) f.length ok k = false) :
    RxReported x ((x.rxNoted f ok).rxEnded t a ⟨rsr, isr, 0, c.toList⟩) f ok t rsr isr c a := by
  have ends := Device.rxEnded_spec pass t a ⟨rsr, isr, 0, c.toList⟩ (by cases c <;> simp)
    fun k h => apart k (Option.mem_toList.mp h)
  have octets := ends.octets.trans (bump_zero _)
  refine ⟨ends.rsr, ends.queue, ends.ptp, fun k => ?_, ?_⟩
  · simpa only [Option.mem_toList, Option.mem_def] using ends.stats k
  · simpa only [Device.RxChanged, octets] using ends.rest

theorem Device.rxReported_discarded (t : Fin 4) :
    RxReported x (x.rxNoted f ok) f ok t 0 0 none (x.queue t).rxCur := by
  have reported := Device.rxReported pass t (x.queue t).rxCur 0 0 none (by simp)
  have same := (x.rxNoted f ok).rxEnded_discarded t
  rw [Device.queue_rxNoted] at same
  exact same ▸ reported

theorem Device.rxReported_resourceError (t : Fin 4) : RxReported x ((x.rxNoted f ok).rxResourceError t) f ok t 1 4
    (some .resourceErrorsRx) (x.queue t).rxCur := by
  have reported := Device.rxReported pass t (x.queue t).rxCur 1 4 (some .resourceErrorsRx)
    (by rintro k ⟨⟩; rfl)
  have cur : ((x.rxNoted f ok).queue t).rxCur = (x.queue t).rxCur := by rw [Device.queue_rxNoted]
  rw [← Device.rxEnded_resourceError, cur]
  exact reported

theorem Device.rxReported_busError_moved (t : Fin 4) (a : Word) :
    RxReported x (((x.rxNoted f ok).setRxCur t a).rxBusError t) f ok t 8 0x800 none a := by
  rw [← Device.rxEnded_busError]
  exact Device.rxReported pass t a 8 0x800 none (by simp)

theorem Device.rxReported_busError (t : Fin 4) :
    RxReported x ((x.rxNoted f ok).rxBusError t) f ok t 8 0x800 none (x.queue t).rxCur := by
  have reported := Device.rxReported_busError_moved pass t ((x.rxNoted f ok).queue t).rxCur
  rw [Device.setRxCur_self] at reported
  rwa [Device.queue_rxNoted] at reported

theorem Device.rxStored_spec (t : Fin 4) (a : Word) :
    RxStored x (((x.rxNoted f ok).setRxCur t a).rxDone t f) t a f ok := by
  have apart (k : Stat) (h : k ∈ (RxEnd.stored f).counters) :
      checkCounted (parseFrame x.stackedVlan (f.length - 4) f) f.length ok k = false := by
    have counted := (mem_storedCounters f (rxChecks_pass pass).1 k).mp h
    cases k <;> simp_all [rxCounted, checkCounted]
  have ends := Device.rxEnded_spec pass t a (.stored f) (nodup_storedCounters f) apart
  rw [← Device.rxEnded_stored]
  refine ⟨ends.rsr, ends.queue, ends.ptp, ends.octets, fun k => ?_, ends.rest⟩
  simpa only [mem_storedCounters f (rxChecks_pass pass).1, Bool.or_eq_true] using ends.stats k

end Ended

end Sys2Proof.Machine
end

section
/-! PROOF. Frames that are discarded before a ring is reached (42_rx_ring R371; 43_classifier R403-R408, R412, R441): what
the receive path makes of a frame that fails a check, that no filter accepts or a screener drops, or that reaches a queue. -/

namespace Sys2Proof.Machine

/-! ### The receive path -/

section Path

variable {d : Dev} {f : List Byte} {dr : RxDraws} {s : State}

theorem rxDevice_overrun (enabled : ncrRe (s.dev d).ncr = true) (overrun : dr.overrun = true) :
    rxDevice d f dr s = .next (s.setDev d (s.dev d).rxOverrun) := by
  simp [rxDevice, enabled, overrun]

/-- A frame that fails a check is counted and discarded (43_classifier R408). -/
theorem rxDevice_fails {l : List Stat} (enabled : ncrRe (s.dev d).ncr = true) (noOverrun : dr.overrun = false)
    (checks : rxChecks (s.dev d).ncfgr (s.dev d).jml (parseFrame (s.dev d).stackedVlan (f.length - 4) f) f.length
      (fcsOk dr.runtFcs f) = (l, false)) :
    rxDevice d f dr s = .next (s.setDev d ((s.dev d).countAll l)) := by
  simp [rxDevice, enabled, noOverrun, checks]

/-- A frame that passes the checks and is not accepted, or that a screener drops (43_classifier R412, R441). -/
theorem rxDevice_dropped (enabled : ncrRe (s.dev d).ncr = true) (noOverrun : dr.overrun = false)
    (pass : (rxChecks (s.dev d).ncfgr (s.dev d).jml (parseFrame (s.dev d).stackedVlan (f.length - 4) f) f.length
      (fcsOk dr.runtFcs f)).2 = true)
    (unwanted : accepted (s.dev d) f = false ∨ targetQueue (s.cfg.nQueues d) dr.route
      (screen s.cfg (s.dev d) dr.tests (parseFrame (s.dev d).stackedVlan (f.length - 4) f) f) = none) :
    rxDevice d f dr s = .next (s.setDev d ((s.dev d).rxNoted f (fcsOk dr.runtFcs f))) := by
  simp only [rxDevice, enabled, noOverrun, pass, Bool.not_true, Bool.false_eq_true, if_false]
  split
  · rfl
  · next accepts =>
    rw [unwanted.resolve_left (by simpa using accepts)]
    rfl

namespace RxReaches

variable {t : Fin 4}

/-- A frame that reaches a disabled queue (42_rx_ring R356). -/
theorem rxDevice_disabledQueue (h : RxReaches s d f dr t) (notFirst : t ≠ 0) (disabled : ((s.dev d).queue t).rxQdis = true) :
    rxDevice d f dr s = .next (s.setDev d (((s.dev d).rxNoted f (fcsOk dr.runtFcs f)).rxResourceError t)) := by
  obtain ⟨enabled, noOverrun, ⟨checks, accepts⟩, routed⟩ := h
  simp only [rxDevice, enabled, noOverrun, checks, accepts, routed, disabled, notFirst, ne_eq, not_false_eq_true,
    decide_true, Bool.and_self, Bool.not_true, Bool.false_eq_true, if_false, if_true]
  rfl

/-- A frame that reaches an enabled queue is stored there (42_rx_ring R355, R357). -/
theorem rxDevice_stored (h : RxReaches s d f dr t) (enabled : t = 0 ∨ ((s.dev d).queue t).rxQdis = false) :
    rxDevice d f dr s =
      rxStore d t (parseFrame (s.dev d).stackedVlan (f.length - 4) f) (rxMessage (s.dev d) f)
        (!fcsOk dr.runtFcs f) dr.errs f ((s.dev d).rxNoted f (fcsOk dr.runtFcs f)) s := by
  obtain ⟨re, noOverrun, ⟨checks, accepts⟩, routed⟩ := h
  have receives : (decide (t ≠ 0) && ((s.dev d).queue t).rxQdis) = false := by
    rcases enabled with rfl | e
    · rfl
    · simp [e]
  simp only [rxDevice, re, noOverrun, checks, accepts, routed, receives, Bool.not_true, Bool.false_eq_true, if_false]
  rfl

end RxReaches

end Path

/-- The length-field error (43_classifier R406). -/
theorem lengthFieldError_eq (p : Parsed) (n : Nat) : lengthFieldError p n = p.et.any fun lf =>
    decide (lf < 0x0600 ∧ (p.len - p.l3 < lf ∨ (lf < p.len - p.l3 ∧ 64 < n))) := by
  unfold lengthFieldError
  cases p.et <;> simp

/-- Settles O45: the overrun, then the checks in their order, then the filters and the screeners. -/
theorem rxDiscards : Obligations.RxDiscards := by
  refine ⟨?_, ?_⟩
  · intro m a dr s d x offered whole online draws enabled overrun
    have target : rxTarget s m a.cls = d := rfl
    have taken : rxPassed m a dr s = false := by
      simp only [rxPassed, target, offered, draws, Bool.not_true, Bool.false_or, Bool.or_false]
      exact online
    have same : (rxAccounted m a s).dev d = x := State.setMmsl_dev s m _ d
    rw [runRxFrame_eq, taken, whole, target, if_neg Bool.false_ne_true, if_neg Bool.false_ne_true,
      rxDevice_overrun (by rw [same]; exact enabled) overrun, same, rxAccounted, whole]
    rfl
  · intro d f dr s enabled noOverrun x p ok limit disagrees fcs len ends
    have disagrees_eq : lengthFieldError p f.length = disagrees := by
      rw [lengthFieldError_eq, parseFrame_len]
    have checked {l : List Stat} (h : rxChecks x.ncfgr x.jml p f.length ok = (l, false)) : ends (x.countAll l) :=
      rxDevice_fails enabled noOverrun h
    have limit_eq : maxRx x.ncfgr x.jml p.tags = limit := rfl
    have fcs_eq : x.countAll (if ok then [] else [.fcsErrorsRx]) = fcs := by
      simp only [fcs]
      split <;> rfl
    have len_eq : x.countAll ((if ok then [] else [.fcsErrorsRx]) ++ if disagrees then [.lengthErrorsRx] else []) = len := by
      simp only [len, fcs]
      split <;> split <;> rfl
    split
    · next short =>
      have counted := checked (by rw [rxChecks, if_pos short])
      rwa [apply_ite x.countAll] at counted
    next short =>
    split
    · next long => exact checked (by rw [rxChecks, if_neg short, limit_eq, if_pos long])
    next long =>
    split
    · next noFcs =>
      rw [← fcs_eq]
      exact checked (by simp [rxChecks, short, limit_eq, long, noFcs])
    next noFcs =>
    split
    · next noLen =>
      rw [← len_eq]
      exact checked (by simp [rxChecks, short, limit_eq, long, noFcs, disagrees_eq, noLen])
    next noLen =>
    have last : rxChecks x.ncfgr x.jml p f.length ok = ((if ok then [] else [.fcsErrorsRx]) ++
        if disagrees then [.lengthErrorsRx] else [], !decide (ncfgrDnvlan x.ncfgr = true ∧ p.tags = 0)) := by
      simp [rxChecks, short, limit_eq, long, noFcs, disagrees_eq, noLen]
    split
    · next untagged =>
      rw [← len_eq]
      exact checked (by rw [last, decide_eq_true untagged, Bool.not_true])
    · next tagged =>
      have pass : (rxChecks x.ncfgr x.jml p f.length ok).2 = true := by
        rw [last, decide_eq_false tagged, Bool.not_false]
      exact ⟨pass, fun unwanted => ⟨_, rxDevice_dropped enabled noOverrun pass unwanted,
        Device.rxReported_discarded pass 0⟩⟩

end Sys2Proof.Machine
end

section
/-! PROOF. The data step under any memory oracle (42_rx_ring R358, R360, R372; 20_memory R122): along a chain whose
accesses are answered, what is in memory when it comes to a descriptor, and how it ends there. -/

namespace Sys2Proof.Machine

/-! ### Oracles -/

/-- The oracle answers every access from number `lo` up to `hi`. -/
def Oracle.Clean (o : Oracle) (lo hi : Nat) : Prop := ∀ k, lo ≤ k → k < hi → ∀ a len, o.busErr k a len = false

/-- The oracle answers access number `k` with BusErr, wherever it goes. -/
def Oracle.Fails (o : Oracle) (k : Nat) : Prop := ∀ a len, o.busErr k a len = true

theorem Oracle.Clean.mono {o : Oracle} {lo hi lo' hi' : Nat} (h : o.Clean lo hi) (low : lo ≤ lo') (high : hi' ≤ hi) :
    o.Clean lo' hi' := fun k hl hh => h k (low.trans hl) (hh.trans_le high)

theorem NoBusErr.clean {errs : List Nat} {c : Params} (h : NoBusErr errs c) (lo hi : Nat) :
    Oracle.Clean ⟨errs, c.holes⟩ lo hi := fun k _ _ => h.busErr k

theorem clean_of_first {errs : List Nat} {k : Nat} (first : ∀ j ∈ errs, k ≤ j) : Oracle.Clean ⟨errs, []⟩ 0 k :=
  fun _ _ low => busErr_of_not_mem fun h => Nat.not_le.mpr low (first _ h)

theorem fails_of_mem {errs : List Nat} {k : Nat} (h : k ∈ errs) : Oracle.Fails ⟨errs, []⟩ k := busErr_of_mem h

theorem dmaWriteBytes_of_clean {o : Oracle} (bs : List Byte) (m : Memory) {n : Nat} (a : Nat)
    (clean : o.Clean n (n + bs.length)) : dmaWriteBytes o m n a bs = (Memory.writeBytes m a bs, true) := by
  induction bs generalizing m n a with
  | nil => rfl
  | cons b rest ih =>
    rw [List.length_cons] at clean
    rw [dmaWriteBytes, clean n le_rfl (by omega), if_neg Bool.false_ne_true,
      ih _ _ (clean.mono (by omega) (by omega))]
    rfl

/-- Byte writes up to the first whose access fails. -/
theorem dmaWriteBytes_of_fails {o : Oracle} (bs : List Byte) (m : Memory) {n k : Nat} (a : Nat)
    (clean : o.Clean n (n + k)) (fails : o.Fails (n + k)) (short : k < bs.length) :
    dmaWriteBytes o m n a bs = (Memory.writeBytes m a (bs.take k), false) := by
  induction bs generalizing m n k a with
  | nil => exact absurd short (by simp)
  | cons b rest ih =>
    cases k with
    | zero => exact if_pos (fails a 1)
    | succ k =>
      rw [← Nat.add_assoc, Nat.add_right_comm] at fails
      rw [dmaWriteBytes, clean n le_rfl (by omega), if_neg Bool.false_ne_true,
        ih _ _ (clean.mono (by omega) (by omega)) fails (by simpa using short)]
      rfl

/-! ### Bytes stored over a chain -/

theorem storeOver_nil_bytes (bytes off : Nat) (m : Memory) (descs : List (Word × Word)) :
    storeOver bytes off m descs [] = m := by
  induction descs generalizing off m with
  | nil => rfl
  | cons p rest ih => simpa [storeOver, Memory.writeBytes] using ih 0 m

theorem storeOver_append (bytes off : Nat) (m : Memory) (xs ys : List (Word × Word)) (l : List Byte)
    (hoff : off ≤ bytes) : storeOver bytes off m (xs ++ ys) l =
      storeOver bytes (if xs.isEmpty then off else 0) (storeOver bytes off m xs l) ys
        (l.drop (xs.length * bytes - off)) := by
  induction xs generalizing off m l with
  | nil => simp [storeOver]
  | cons p tail ih =>
    have skip : bytes - off + tail.length * bytes = (tail.length + 1) * bytes - off := by
      rw [Nat.succ_mul]
      omega
    rw [List.cons_append, storeOver, ih 0 _ _ (Nat.zero_le _), storeOver, List.drop_drop, Nat.sub_zero, skip, ite_self]
    rfl

/-- Buffers take no more bytes than they hold. -/
theorem storeOver_take (bytes off : Nat) (m : Memory) (xs : List (Word × Word)) (l : List Byte) {n : Nat}
    (hoff : off ≤ bytes) (hold : xs.length * bytes - off ≤ n) :
    storeOver bytes off m xs (l.take n) = storeOver bytes off m xs l := by
  induction xs generalizing off m l n with
  | nil => rfl
  | cons p tail ih =>
    rw [List.length_cons, Nat.succ_mul] at hold
    rw [storeOver, List.take_take, Nat.min_eq_left (by omega), List.drop_take, ih 0 _ _ (Nat.zero_le _) (by omega)]
    rfl

/-- The bytes a frame has in the buffers before the descriptor behind `k` others. -/
def RxRing.held (g : RxRing) (k : Nat) : Nat := k * g.bytes - g.offset

/-- The first `n` bytes of a frame, of which the last lies in the buffer of `z`. -/
theorem storeOver_within (g : RxRing) (m : Memory) (xs ys : List (Word × Word)) (z : Word × Word) (l : List Byte) {n : Nat}
    (hoff : g.offset ≤ g.bytes) (low : g.held xs.length ≤ n) (high : n - g.held xs.length ≤ g.bytes - g.start xs) :
    storeOver g.bytes g.offset m (xs ++ z :: ys) (l.take n) =
      Memory.writeBytes (storeOver g.bytes g.offset m xs l) ((rxAddr z.2).toNat + g.start xs)
        ((l.drop (g.held xs.length)).take (n - g.held xs.length)) := by
  have left : ((l.drop (g.held xs.length)).take (n - g.held xs.length)).drop (g.bytes - g.start xs) = [] :=
    List.drop_eq_nil_of_le ((List.length_take_le _ _).trans high)
  rw [storeOver_append _ _ _ _ _ _ hoff, storeOver_take _ _ _ _ _ hoff low, ← RxRing.start, ← RxRing.held, List.drop_take,
    storeOver, left, storeOver_nil_bytes, List.take_take, Nat.min_eq_right high]

/-! ### One descriptor -/

section Fill

variable {o : Oracle} {g : RxRing} {m : Memory}

/-- A hardware-owned descriptor to which the ring has not come round, under any oracle (42_rx_ring R360). -/
theorem rxFill_owned {a w0 b : Word} (fuel n : Nat) {acc : List (Word × Word)} (rest : List Byte)
    (hw : Memory.read32 m a = w0) (own : rxOwn w0 = false) (round : acc = [] ∨ a ≠ g.first)
    (next : nextDesc g.base (rxWrap w0) g.stride a = some b) :
    rxFill o g (fuel + 1) m n a acc rest =
      let c := min (g.bytes - g.start acc) rest.length
      let dst := (rxAddr w0).toNat + g.start acc
      let r := dmaWriteBytes o m (n + 1) dst (rest.take c)
      if o.busErr n a.toNat 4 then .busErr m
      else if 2 ^ 32 ≤ dst + c then .fault .addressOverflow
      else if r.2 = false then .busErr r.1
      else if rest.length = c then .filled r.1 (n + 1 + c) (acc ++ [(a, w0)]) b
      else rxFill o g fuel r.1 (n + 1 + c) b (acc ++ [(a, w0)]) (rest.drop c) := by
  have start : (if acc.isEmpty then g.offset else 0) = g.start acc := rfl
  by_cases err : o.busErr n a.toNat 4 = true
  · simp only [rxFill, dmaRead32, err, if_true]
  · simp only [rxFill, dmaRead32, err, if_false, hw, own, comeRound_eq_false round, Bool.or_false, Bool.false_eq_true,
      next, start]
    refine if_congr Iff.rfl rfl ?_
    cases written : (dmaWriteBytes o m (n + 1) ((rxAddr w0).toNat + g.start acc)
      (rest.take (min (g.bytes - g.start acc) rest.length))).2
    · rfl
    · rfl

theorem rxFill_readError {a : Word} {fuel n : Nat} (fails : o.busErr n a.toNat 4 = true) (acc : List (Word × Word))
    (rest : List Byte) : rxFill o g (fuel + 1) m n a acc rest = .busErr m := by
  simp [rxFill, dmaRead32, fails]

/-- A software-owned descriptor, or one to which the ring has come round (42_rx_ring R358). -/
theorem rxFill_resource {a : Word} {fuel n : Nat} (answered : o.busErr n a.toNat 4 = false) {acc : List (Word × Word)}
    (stop : (acc ≠ [] ∧ a = g.first) ∨ rxOwn (Memory.read32 m a) = true) (rest : List Byte) :
    rxFill o g (fuel + 1) m n a acc rest = .resource m := by
  have ends : (rxOwn (Memory.read32 m a) || (!acc.isEmpty && decide (a = g.first))) = true := by
    simpa [or_comm] using stop
  simp only [rxFill, dmaRead32, answered, ends, Bool.false_eq_true, if_false, if_true]

/-- A hardware-owned descriptor whose bytes lie in memory, with a bus error at one of them (42_rx_ring R372). -/
theorem rxFill_byteError {a w0 b : Word} {fuel n k : Nat} {acc : List (Word × Word)} {rest : List Byte}
    (hw : Memory.read32 m a = w0) (own : rxOwn w0 = false) (round : acc = [] ∨ a ≠ g.first)
    (next : nextDesc g.base (rxWrap w0) g.stride a = some b)
    (fit : (rxAddr w0).toNat + g.start acc + min (g.bytes - g.start acc) rest.length < 2 ^ 32)
    (short : k < min (g.bytes - g.start acc) rest.length) (clean : o.Clean n (n + 1 + k)) (fails : o.Fails (n + 1 + k)) :
    rxFill o g (fuel + 1) m n a acc rest =
      .busErr (Memory.writeBytes m ((rxAddr w0).toNat + g.start acc) (rest.take k)) := by
  rw [rxFill_owned fuel n rest hw own round next]
  simp only [clean n le_rfl (by omega), Bool.false_eq_true, if_false, Nat.not_le.mpr fit]
  rw [dmaWriteBytes_of_fails _ m _ (clean.mono (Nat.le_succ n) le_rfl) fails
    (by simpa only [List.length_take, Nat.min_assoc, Nat.min_self] using short)]
  simp only [if_true, List.take_take, Nat.min_eq_left short.le]

/-- A hardware-owned descriptor whose bytes lie in memory and are all written (42_rx_ring R360). -/
theorem rxFill_pass {a w0 b : Word} {fuel n c : Nat} {acc : List (Word × Word)} {rest : List Byte}
    (hw : Memory.read32 m a = w0) (own : rxOwn w0 = false) (round : acc = [] ∨ a ≠ g.first)
    (next : nextDesc g.base (rxWrap w0) g.stride a = some b) (hc : min (g.bytes - g.start acc) rest.length = c)
    (fit : (rxAddr w0).toNat + g.start acc + c < 2 ^ 32) (clean : o.Clean n (n + 1 + c)) :
    rxFill o g (fuel + 1) m n a acc rest =
      let m' := Memory.writeBytes m ((rxAddr w0).toNat + g.start acc) (rest.take c)
      if rest.length = c then .filled m' (n + 1 + c) (acc ++ [(a, w0)]) b
      else rxFill o g fuel m' (n + 1 + c) b (acc ++ [(a, w0)]) (rest.drop c) := by
  have size : (rest.take c).length ≤ c := List.length_take_le _ _
  rw [rxFill_owned fuel n rest hw own round next, hc]
  simp only [clean n le_rfl (by omega), Bool.false_eq_true, if_false, Nat.not_le.mpr fit]
  rw [dmaWriteBytes_of_clean _ m _ (clean.mono (Nat.le_succ n) (by omega))]
  simp only [Bool.true_eq_false, if_false]

end Fill

/-! ### Along a chain -/

theorem RxChain.exists_of_append {m : Memory} {base first : Word} {step : Nat} {xs ys : List (Word × Word)} {a b : Word}
    (h : RxChain m base first step a (xs ++ ys) b) : ∃ c, RxChain m base first step a xs c := by
  induction xs generalizing a with
  | nil => exact ⟨a, rfl⟩
  | cons p tail ih =>
    obtain ⟨here, word, own, c, next, more, chain⟩ := h
    obtain ⟨e, rest⟩ := ih chain
    exact ⟨e, here, word, own, c, next, fun tail => more (by simp [tail]), rest⟩

/-- A chain in memory that the data step can fill: its buffers end in memory and do not lie on its first words, and the
first buffer is longer than the offset. -/
structure RxRing.Fillable (g : RxRing) (m : Memory) (descs : List (Word × Word)) (b : Word) : Prop where
  offset  : g.offset < g.bytes
  chain   : RxChain m g.base g.first g.stride g.first descs b
  fit     : ∀ r ∈ descs, (rxAddr r.2).toNat + g.bytes < 2 ^ 32
  buffers : BuffersOff g.bytes descs (descs.map Prod.fst)

section Along

variable {o : Oracle} {g : RxRing} {m : Memory}

theorem RxRing.start_held (xs : List (Word × Word)) (h : g.offset < g.bytes) :
    xs.length * g.bytes + g.start xs = g.offset + g.held xs.length := by
  cases xs with
  | nil => simp [RxRing.start, RxRing.held]
  | cons p tail =>
    simp only [RxRing.start, RxRing.held, List.length_cons, Nat.succ_mul, List.isEmpty_cons, Bool.false_eq_true, if_false]
    omega

theorem RxRing.held_le {k n : Nat} (more : k * g.bytes ≤ g.offset + n) : g.held k ≤ n := by
  unfold RxRing.held
  omega

theorem RxRing.held_succ (xs : List (Word × Word)) (h : g.offset < g.bytes) :
    g.held (xs.length + 1) = g.held xs.length + (g.bytes - g.start xs) := by
  have held := RxRing.start_held xs h
  have start := g.start_le xs
  simp only [RxRing.held, Nat.succ_mul] at held ⊢
  omega

theorem RxRing.Fillable.of_append {xs ys : List (Word × Word)} {b : Word} (h : g.Fillable m (xs ++ ys) b) :
    ∃ c, g.Fillable m xs c := by
  obtain ⟨c, chain⟩ := h.chain.exists_of_append
  exact ⟨c, h.offset, chain, fun r hr => h.fit r (by simp [hr]), h.buffers.mono (by simp) (by simp)⟩

/-- The data step comes to the descriptor behind a chain that does not hold the frame, if every access on the way is
answered: what is left of the frame begins there. -/
theorem rxFill_along {xs : List (Word × Word)} {b : Word} {l : List Byte} (h : g.Fillable m xs b)
    (more : xs.length * g.bytes < g.offset + l.length) (clean : o.Clean 0 (xs.length + g.held xs.length)) (fuel : Nat) :
    rxFill o g (fuel + xs.length) m 0 g.first [] l =
      rxFill o g fuel (storeOver g.bytes g.offset m xs l) (xs.length + g.held xs.length) b xs
        (l.drop (g.held xs.length)) := by
  induction xs using List.reverseRecOn generalizing b fuel with
  | nil =>
    obtain rfl : g.first = b := h.chain
    simp [storeOver, RxRing.held]
  | append_singleton xs z ih =>
    obtain ⟨chain, round, word, own, next⟩ := h.chain.append_singleton
    have before : g.Fillable m xs z.1 :=
      ⟨h.offset, chain, fun r hr => h.fit r (by simp [hr]), h.buffers.mono (by simp) (by simp)⟩
    have word' : Memory.read32 (storeOver g.bytes g.offset m xs l) z.1 = z.2 :=
      (Memory.read32_storeOver m l h.offset.le (h.buffers.mono (by simp) (fun _ k => k)) (by simp)).trans word.symm
    have held := RxRing.start_held xs h.offset
    have start := g.start_le xs
    have short := h.offset
    have fit := h.fit z (by simp)
    rw [List.length_append, List.length_singleton] at clean more ⊢
    rw [RxRing.held_succ xs h.offset] at clean ⊢
    rw [Nat.succ_mul] at more
    have room : min (g.bytes - g.start xs) (l.drop (g.held xs.length)).length = g.bytes - g.start xs := by
      rw [List.length_drop]
      omega
    rw [← Nat.add_assoc, Nat.add_right_comm, ih before (by omega) (clean.mono le_rfl (by omega)),
      rxFill_pass word' own round next room (by omega) (clean.mono (Nat.zero_le _) (by omega))]
    simp only
    rw [if_neg (by rw [List.length_drop]; omega), List.drop_drop, storeOver_append _ _ _ _ _ _ h.offset.le]
    congr 1
    omega

/-! ### How the data step ends -/

/-- What the data step finds at the last of some descriptors, behind the others and with their buffers filled. -/
theorem RxRing.Fillable.last {xs : List (Word × Word)} {z : Word × Word} {b : Word} (h : g.Fillable m (xs ++ [z]) b) :
    g.Fillable m xs z.1 ∧ (xs = [] ∨ z.1 ≠ g.first) ∧ rxOwn z.2 = false
      ∧ nextDesc g.base (rxWrap z.2) g.stride z.1 = some b
      ∧ ∀ l, Memory.read32 (storeOver g.bytes g.offset m xs l) z.1 = z.2 := by
  obtain ⟨chain, round, word, own, next⟩ := h.chain.append_singleton
  exact ⟨⟨h.offset, chain, fun r hr => h.fit r (by simp [hr]), h.buffers.mono (by simp) (by simp)⟩, round, own, next,
    fun l => (Memory.read32_storeOver m l h.offset.le (h.buffers.mono (by simp) (fun _ k => k)) (by simp)).trans word.symm⟩

/-- The data step comes to the descriptor behind a chain with fuel left. -/
theorem rxFill_comes {xs : List (Word × Word)} {b : Word} {l : List Byte} (h : g.Fillable m xs b)
    (more : xs.length * g.bytes < g.offset + l.length) (clean : o.Clean 0 (xs.length + g.held xs.length)) :
    ∃ fuel, rxFill o g (l.length + 1) m 0 g.first [] l =
      rxFill o g (fuel + 1) (storeOver g.bytes g.offset m xs l) (xs.length + g.held xs.length) b xs
        (l.drop (g.held xs.length)) := by
  have short := chain_length_le more h.offset
  have fuel : l.length + 1 = l.length - xs.length + 1 + xs.length := by omega
  exact ⟨l.length - xs.length, fuel ▸ rxFill_along h more clean _⟩

/-- The ring ends behind a chain that does not hold the frame (42_rx_ring R358). -/
theorem rxFill_ends_resource {xs : List (Word × Word)} {b : Word} {l : List Byte} (h : g.Fillable m xs b)
    (more : xs.length * g.bytes < g.offset + l.length) (clean : o.Clean 0 (xs.length + g.held xs.length + 1))
    (behind : BuffersOff g.bytes xs [b]) (stop : (xs ≠ [] ∧ b = g.first) ∨ rxOwn (Memory.read32 m b) = true) :
    rxFill o g (l.length + 1) m 0 g.first [] l = .resource (storeOver g.bytes g.offset m xs l) := by
  obtain ⟨fuel, comes⟩ := rxFill_comes h more (clean.mono le_rfl (Nat.le_succ _))
  rw [comes, rxFill_resource (clean _ (Nat.zero_le _) (Nat.lt_succ_self _) _ _)]
  rwa [Memory.read32_storeOver m l h.offset.le behind (by simp)]

/-- A bus error at the read of a descriptor (42_rx_ring R372). -/
theorem rxFill_ends_readError {xs ys : List (Word × Word)} {z : Word × Word} {b : Word} {l : List Byte}
    (h : g.Fillable m (xs ++ z :: ys) b) (more : xs.length * g.bytes < g.offset + l.length)
    (clean : o.Clean 0 (xs.length + g.held xs.length)) (fails : o.Fails (xs.length + g.held xs.length)) :
    rxFill o g (l.length + 1) m 0 g.first [] l =
      .busErr (storeOver g.bytes g.offset m (xs ++ z :: ys) (l.take (g.held xs.length))) := by
  obtain ⟨c, before⟩ := h.of_append
  obtain ⟨fuel, comes⟩ := rxFill_comes before more clean
  rw [comes, rxFill_readError (fails _ 4), storeOver_within g m xs ys z l h.offset.le le_rfl (by simp), Nat.sub_self]
  rfl

/-- A bus error at a byte of the frame, which goes to the buffer of `z` (42_rx_ring R372). -/
theorem rxFill_ends_byteError {xs ys : List (Word × Word)} {z : Word × Word} {b : Word} {l : List Byte} {n : Nat}
    (h : g.Fillable m (xs ++ z :: ys) b) (inside : n < l.length) (low : g.held xs.length ≤ n)
    (high : n - g.held xs.length < g.bytes - g.start xs)
    (clean : o.Clean 0 (xs.length + 1 + n)) (fails : o.Fails (xs.length + 1 + n)) :
    rxFill o g (l.length + 1) m 0 g.first [] l =
      .busErr (storeOver g.bytes g.offset m (xs ++ z :: ys) (l.take n)) := by
  obtain ⟨c, upTo⟩ := RxRing.Fillable.of_append (xs := xs ++ [z]) (ys := ys) (by simpa using h)
  obtain ⟨before, round, own, next, word⟩ := upTo.last
  have held := RxRing.start_held xs h.offset
  have start := g.start_le xs
  have short := h.offset
  have fit := h.fit z (by simp)
  obtain ⟨fuel, comes⟩ := rxFill_comes before (l := l) (by omega) (clean.mono le_rfl (by omega))
  have place : xs.length + g.held xs.length + 1 + (n - g.held xs.length) = xs.length + 1 + n := by omega
  rw [comes, rxFill_byteError (k := n - g.held xs.length) (word l) own round next (by rw [List.length_drop]; omega)
      (by rw [List.length_drop]; omega) (place ▸ clean.mono (Nat.zero_le _) le_rfl) (place ▸ fails),
    storeOver_within g m xs ys z l h.offset.le low high.le]

/-- The data step ends at the descriptor that takes the last byte of the frame (42_rx_ring R360). -/
theorem rxFill_ends_filled {xs : List (Word × Word)} {z : Word × Word} {b : Word} {l : List Byte}
    (h : g.Fillable m (xs ++ [z]) b) (more : xs.length * g.bytes < g.offset + l.length)
    (hold : g.offset + l.length ≤ (xs.length + 1) * g.bytes) (clean : o.Clean 0 (xs.length + 1 + l.length)) :
    rxFill o g (l.length + 1) m 0 g.first [] l =
      .filled (storeOver g.bytes g.offset m (xs ++ [z]) l) (xs.length + 1 + l.length) (xs ++ [z]) b := by
  obtain ⟨before, round, own, next, word⟩ := h.last
  have held := RxRing.start_held xs h.offset
  have start := g.start_le xs
  have short := h.offset
  have fit := h.fit z (by simp)
  have heldLe := RxRing.held_le more.le
  rw [Nat.succ_mul] at hold
  have left : (l.drop (g.held xs.length)).length = l.length - g.held xs.length := List.length_drop
  obtain ⟨fuel, comes⟩ := rxFill_comes before more (clean.mono le_rfl (by omega))
  have within := storeOver_within g m xs [] z l h.offset.le (n := l.length) (by omega) (by omega)
  rw [List.take_length] at within
  rw [comes, rxFill_pass (word l) own round next (c := l.length - g.held xs.length) (by omega) (by omega)
    (clean.mono (Nat.zero_le _) (by omega))]
  simp only [left, if_true, within]
  congr 1
  omega

end Along

end Sys2Proof.Machine
end

section
/-! PROOF. The words a received frame is returned with (42_rx_ring R364-R366; 30_encoding R148, R149): the fields of the
last status word, and the writes in their order. -/

namespace Sys2Proof.Machine

/-! ### Fields of a word put together -/

section Placed

variable {v n i lo len : Nat}

theorem getLsbD_bitAt (i j : Nat) (b : Bool) (h : j < 32) : (bitAt i b).getLsbD j = (b && decide (i = j)) := by
  cases b with
  | false => simp [bitAt]
  | true =>
    by_cases same : i = j
    · subst same
      simp [bitAt, h]
    · have apart (low : i ≤ j) : ¬ j - i = 0 := by omega
      simpa [bitAt, same, h] using apart

/-- A number of `n` bits put at place `i` has no bit outside. -/
theorem getLsbD_placed_outside (fits : v < 2 ^ n) {j : Nat} (outside : j < i ∨ i + n ≤ j) :
    (BitVec.ofNat 32 v <<< i).getLsbD j = false := by
  have high (h : i + n ≤ j) : v.testBit (j - i) = false :=
    Nat.testBit_lt_two_pow (fits.trans_le (Nat.pow_le_pow_right (by decide) (by omega)))
  rcases outside with low | far
  · simp [low]
  · simp [BitVec.getLsbD_ofNat, high far]

/-- A field of a word is 0 where none of its bits is set. -/
theorem extractLsb'_eq_zero {w : Word} (h : ∀ j, lo ≤ j → j < lo + len → w.getLsbD j = false) :
    w.extractLsb' lo len = 0#len :=
  BitVec.eq_of_getLsbD_eq fun j hj => by simp [h (lo + j) (by omega) (by omega)]

theorem extractLsb'_bitAt_outside (b : Bool) (fits : lo + len ≤ 32) (outside : i < lo ∨ lo + len ≤ i) :
    (bitAt i b).extractLsb' lo len = 0#len :=
  extractLsb'_eq_zero fun j low high => by
    have apart : i ≠ j := by omega
    simp [getLsbD_bitAt i j b (by omega), apart]

theorem extractLsb'_placed_outside (fits : v < 2 ^ n) (outside : lo + len ≤ i ∨ i + n ≤ lo) :
    (BitVec.ofNat 32 v <<< i).extractLsb' lo len = 0#len :=
  extractLsb'_eq_zero fun _ _ _ => getLsbD_placed_outside fits (by omega)

theorem extractLsb'_placed (v : Nat) (fits : i + n ≤ 32) : (BitVec.ofNat 32 v <<< i).extractLsb' i n = BitVec.ofNat n v :=
  BitVec.eq_of_getLsbD_eq fun j hj => by
    have inside : i + j < 32 := by omega
    have here : j < 32 := by omega
    simp only [BitVec.getLsbD_extractLsb', hj, BitVec.getLsbD_shiftLeft, inside, BitVec.getLsbD_ofNat, here,
      Nat.add_sub_cancel_left, decide_true, Bool.true_and, Nat.not_lt.mpr (Nat.le_add_right i j), decide_false,
      Bool.not_false]

end Placed

theorem rxEofWord_eq (x : Device) (p : Parsed) (f : List Byte) (badfcs : Bool) (len k : Nat) :
    rxEofWord x p f badfcs len k =
      (BitVec.ofNat 32 len &&& 0x1FFF#32)
        ||| bitAt 13 (if ncfgrJumbo x.ncfgr then (BitVec.ofNat 32 len).getLsbD 13 else badfcs)
        ||| bitAt 14 (decide (k = 1))
        ||| bitAt 15 true
        ||| bitAt 16 (decide (1 ≤ p.tags) && decide (p.cfi = 1))
        ||| BitVec.ofNat 32 (if 1 ≤ p.tags then p.pcp else 0) <<< 17
        ||| bitAt 20 (decide (1 ≤ p.tags) && decide (p.vid = 0))
        ||| bitAt 21 (decide (1 ≤ p.tags))
        ||| BitVec.ofNat 32 ((tidmHit x p).elim 0 Fin.val) <<< 22
        ||| bitAt 24 (tidmHit x p).isSome
        ||| BitVec.ofNat 32 ((saHit x f).elim 0 Fin.val) <<< 25
        ||| bitAt 27 (saHit x f).isSome
        ||| bitAt 29 (hashHit x f && !isGroup f)
        ||| bitAt 30 (hashHit x f && isGroup f)
        ||| bitAt 31 (isBroadcast f) := by
  have prio : (if decide (1 ≤ p.tags) = true then BitVec.ofNat 32 p.pcp <<< 17 else 0) =
      BitVec.ofNat 32 (if 1 ≤ p.tags then p.pcp else 0) <<< 17 := by
    by_cases tagged : 1 ≤ p.tags <;> simp [tagged]
  simp only [rxEofWord, prio]
  cases tidmHit x p <;> cases saHit x f <;> rfl

/-- The fields of the last status word (R364). -/
theorem rxEofWord_spec (x : Device) (p : Parsed) (f : List Byte) (ok : Bool) (len k : Nat) (prio : p.pcp < 2 ^ 3) :
    EofWord (rxEofWord x p f (!ok) len k) x p f ok len k := by
  have prioFits : (if 1 ≤ p.tags then p.pcp else 0) < 2 ^ 3 := by
    split
    · exact prio
    · decide
  have indexFits (i : Option (Fin 4)) : i.elim 0 Fin.val < 2 ^ 2 := by
    cases i with
    | none => decide
    | some i => exact i.isLt
  have length (j : Nat) (h : 13 ≤ j) : (BitVec.ofNat 32 len &&& 0x1FFF#32).getLsbD j = false := by
    have mask : (0x1FFF#32).getLsbD j = false := by
      have ones : Nat.testBit 0x1FFF j = decide (j < 13) := Nat.testBit_two_pow_sub_one 13 j
      rw [BitVec.getLsbD_ofNat, ones, decide_eq_false (Nat.not_lt.mpr h), Bool.and_false]
    rw [BitVec.getLsbD_and, mask, Bool.and_false]
  have low : (BitVec.ofNat 32 len &&& 0x1FFF#32).extractLsb' 0 13 = BitVec.ofNat 13 len := by
    have whole := extractLsb'_placed (i := 0) (n := 13) len (by decide)
    rw [BitVec.shiftLeft_zero] at whole
    rw [BitVec.extractLsb'_and, whole]
    exact BitVec.and_allOnes
  have high (lo n : Nat) (h : 13 ≤ lo) : (BitVec.ofNat 32 len &&& 0x1FFF#32).extractLsb' lo n = 0#n :=
    extractLsb'_eq_zero fun j hj _ => length j (h.trans hj)
  -- a bit outside the fields of several bits
  have bit (j : Nat) (single : (13 ≤ j ∧ j < 17) ∨ j = 20 ∨ j = 21 ∨ j = 24 ∨ (27 ≤ j ∧ j < 32)) :
      (rxEofWord x p f (!ok) len k).getLsbD j =
        ((if ncfgrJumbo x.ncfgr then (BitVec.ofNat 32 len).getLsbD 13 else !ok) && decide (13 = j)
          || decide (k = 1) && decide (14 = j) || true && decide (15 = j)
          || (decide (1 ≤ p.tags) && decide (p.cfi = 1)) && decide (16 = j)
          || (decide (1 ≤ p.tags) && decide (p.vid = 0)) && decide (20 = j) || decide (1 ≤ p.tags) && decide (21 = j)
          || (tidmHit x p).isSome && decide (24 = j) || (saHit x f).isSome && decide (27 = j)
          || (hashHit x f && !isGroup f) && decide (29 = j) || (hashHit x f && isGroup f) && decide (30 = j)
          || isBroadcast f && decide (31 = j)) := by
    simp (disch := omega) only [rxEofWord_eq, BitVec.getLsbD_or, length, getLsbD_bitAt, getLsbD_placed_outside prioFits,
      getLsbD_placed_outside (indexFits _), Bool.false_or, Bool.or_false]
  exact {
    length := by
      simp (disch := omega) only [field, rxEofWord_eq, BitVec.extractLsb'_or, low, extractLsb'_bitAt_outside,
        extractLsb'_placed_outside prioFits, extractLsb'_placed_outside (indexFits _), BitVec.or_zero]
      exact BitVec.toNat_ofNat len 13
    bit13 := by rw [bit 13 (by omega), BitVec.getLsbD_ofNat]; simp
    sof := by rw [bit 14 (by omega)]; simp
    eof := by rw [bit 15 (by omega)]; simp
    cfi := by rw [bit 16 (by omega)]; simp
    vpri := by
      simp (disch := omega) only [field, rxEofWord_eq, BitVec.extractLsb'_or, high, extractLsb'_bitAt_outside,
        extractLsb'_placed, extractLsb'_placed_outside (indexFits _), BitVec.or_zero, BitVec.zero_or]
      exact Nat.mod_eq_of_lt prioFits
    prioTag := by rw [bit 20 (by omega)]; simp
    vlanTag := by rw [bit 21 (by omega)]; simp
    tidmIdx := by
      simp (disch := omega) only [field, rxEofWord_eq, BitVec.extractLsb'_or, high, extractLsb'_bitAt_outside,
        extractLsb'_placed, extractLsb'_placed_outside prioFits, extractLsb'_placed_outside (indexFits _), BitVec.or_zero,
        BitVec.zero_or]
      exact Nat.mod_eq_of_lt (indexFits _)
    tidmMatch := by rw [bit 24 (by omega)]; simp
    saIdx := by
      simp (disch := omega) only [field, rxEofWord_eq, BitVec.extractLsb'_or, high, extractLsb'_bitAt_outside,
        extractLsb'_placed, extractLsb'_placed_outside prioFits, extractLsb'_placed_outside (indexFits _), BitVec.or_zero,
        BitVec.zero_or]
      exact Nat.mod_eq_of_lt (indexFits _)
    saMatch := by rw [bit 27 (by omega)]; simp
    bit28 := by rw [bit 28 (by omega)]; simp
    uhash := by rw [bit 29 (by omega)]; simp
    mhash := by rw [bit 30 (by omega)]; simp
    bcast := by rw [bit 31 (by omega)]; simp }

theorem be16_lt (f : List Byte) (i : Nat) : be16 f i < 2 ^ 16 := by
  have high : byteAt f i < 2 ^ 8 := BitVec.isLt _
  have low : byteAt f (i + 1) < 2 ^ 8 := BitVec.isLt _
  unfold be16
  omega

theorem parseFrame_pcp_lt (vlan : Word) (m : Nat) (f : List Byte) : (parseFrame vlan m f).pcp < 2 ^ 3 := by
  have tci : (parseFrame vlan m f).tci = be16 f 14 := by
    simp only [parseFrame]
    split <;> rfl
  have small := be16_lt f 14
  rw [Parsed.pcp, tci]
  omega

/-! ### The writes -/

theorem rxMiddleWrites_false (l : List (Word × Word)) : rxMiddleWrites false l = l.map fun r => (r.1 + 4, 0#32) := by
  induction l with
  | nil => rfl
  | cons p tail ih => rw [rxMiddleWrites, ih]; rfl

theorem rxMiddleWrites_cons (p : Word × Word) (tail : List (Word × Word)) :
    rxMiddleWrites true (p :: tail) = (p.1 + 4, 0x4000#32) :: tail.map fun r => (r.1 + 4, 0#32) := by
  rw [rxMiddleWrites, rxMiddleWrites_false]
  rfl

theorem rxMiddleWrites_true (l : List (Word × Word)) :
    rxMiddleWrites true l = l.mapIdx fun i r => (r.1 + 4, if i = 0 then 0x4000#32 else 0#32) := by
  cases l with
  | nil => rfl
  | cons p tail =>
    rw [rxMiddleWrites_cons, List.mapIdx_cons]
    exact congrArg (_ :: ·) (List.ext_getElem (by simp) (by simp))

/-- A timestamp is taken of a received frame (44_tsu R477). -/
def rxStamped (x : Device) (f : List Byte) : Bool := stampStored (dmacfgRxext x.dmacfg) x.rxBdControl (rxMessage x f)

theorem captureStamp_eq (x : Device) (f : List Byte) :
    captureStamp x.tsu (dmacfgRxext x.dmacfg) (tsMode x.rxBdControl) (rxMessage x f) =
      if rxStamped x f then some (x.tsu.sec, x.tsu.ns) else none := by
  have taken := captureStamp_isSome x.tsu (dmacfgRxext x.dmacfg) x.rxBdControl (rxMessage x f)
  rw [rxStamped, ← taken]
  unfold captureStamp
  split <;> rfl

/-- The status words and the timestamp of a frame (R366): `before` are its descriptors but the last, which is at `eof`, and
`w` is the last status word. -/
def rxStatus (x : Device) (f : List Byte) (before : List (Word × Word)) (eof w : Word) : List (Word × Word) :=
  rxMiddleWrites true before ++ (if rxStamped x f then stampWords x.tsu eof else []) ++ [(eof + 4, w)]

/-- The ownership words of a frame (R366). -/
def rxReturns (x : Device) (f : List Byte) (before : List (Word × Word)) (z : Word × Word) : List (Word × Word) :=
  before.map (fun r => (r.1, (r.2 &&& 0xFFFFFFFB#32) ||| 1#32))
    ++ [(z.1, (z.2 &&& 0xFFFFFFFB#32) ||| (if rxStamped x f then 4#32 else 0) ||| 1#32)]

theorem rxStatusWrites_eq (x : Device) (f : List Byte) (before : List (Word × Word)) (eof w : Word) :
    rxStatusWrites before eof w
        (captureStamp x.tsu (dmacfgRxext x.dmacfg) (tsMode x.rxBdControl) (rxMessage x f)) =
      rxStatus x f before eof w := by
  rw [captureStamp_eq]
  unfold rxStatusWrites rxStatus
  cases rxStamped x f <;> rfl

theorem rxOwnWrites_eq (x : Device) (f : List Byte) (before : List (Word × Word)) (z : Word × Word) :
    rxOwnWrites before z.1 z.2
        (captureStamp x.tsu (dmacfgRxext x.dmacfg) (tsMode x.rxBdControl) (rxMessage x f)).isSome =
      rxReturns x f before z := by
  have returned (w : Word) : rxReturned w false = (w &&& 0xFFFFFFFB#32) ||| 1#32 :=
    congrArg (· ||| 1#32) BitVec.or_zero
  rw [captureStamp_isSome, ← rxStamped]
  unfold rxOwnWrites rxReturns
  simp only [returned]
  cases rxStamped x f <;> rfl

end Sys2Proof.Machine
end

section
/-! PROOF. The end of a frame that reaches an enabled queue, by how its data step ends (42_rx_ring R357-R367, R372): the
memory behind it and the device, in the words of the statements. -/

namespace Sys2Proof.Machine

/-! ### A device whose checks are counted receives under the same registers -/

section Noted

variable {x y : Device}

theorem Device.RxChanged.rxEofWord_eq (h : x.RxChanged y) (p : Parsed) (f : List Byte) (badfcs : Bool) (len k : Nat) :
    rxEofWord y p f badfcs len k = rxEofWord x p f badfcs len k := by
  rw [h]
  rfl

theorem Device.RxChanged.ncfgr (h : x.RxChanged y) : y.ncfgr = x.ncfgr := by rw [h]

theorem Device.RxChanged.dmacfg (h : x.RxChanged y) : y.dmacfg = x.dmacfg := by rw [h]

theorem Device.RxChanged.captureStamp_eq (h : x.RxChanged y) (g : Option PtpMsg) :
    captureStamp y.tsu (dmacfgRxext y.dmacfg) (tsMode y.rxBdControl) g =
      captureStamp x.tsu (dmacfgRxext x.dmacfg) (tsMode x.rxBdControl) g := by
  rw [h]

theorem Device.rxRing_rxNoted (x : Device) (f : List Byte) (ok : Bool) (t : Fin 4) :
    (x.rxNoted f ok).rxRing t = x.rxRing t := by
  have same := x.rxChanged_rxNoted f ok
  have bytes : rxBufBytes (x.rxNoted f ok) t = rxBufBytes x t := by rw [same]; rfl
  rw [Device.rxRing, bytes, Device.queue_rxNoted, same.dmacfg, same.ncfgr]
  rfl

end Noted

/-! ### Storing, by the data step -/

/-- The data step of a frame in queue `t` of device `x` (42_rx_ring R360). -/
def rxDataStep (x : Device) (t : Fin 4) (f : List Byte) (errs : List Nat) (s : State) : RxFill :=
  rxFill ⟨errs, s.cfg.holes⟩ (x.rxRing t) ((rxStored x.ncfgr f).length + 1) s.mem 0 (x.rxRing t).first []
    (rxStored x.ncfgr f)

/-- The last status word of a frame over `k` descriptors. -/
def rxLastWord (x : Device) (f : List Byte) (ok : Bool) (k : Nat) : Word :=
  rxEofWord x (parseFrame x.stackedVlan (f.length - 4) f) f (!ok) (rxStored x.ncfgr f).length k

/-- The words a frame is returned with, in their order (R366). -/
def rxWriteBack (x : Device) (f : List Byte) (ok : Bool) (before : List (Word × Word)) (z : Word × Word) :
    List (Word × Word) :=
  rxStatus x f before z.1 (rxLastWord x f ok (before.length + 1)) ++ rxReturns x f before z

section Stored

variable {d : Dev} {f : List Byte} {dr : RxDraws} {s : State} {t : Fin 4}

theorem rxDataStep_rxNoted (x : Device) (ok : Bool) (errs : List Nat) :
    rxDataStep (x.rxNoted f ok) t f errs s = rxDataStep x t f errs s := by
  rw [rxDataStep, Device.rxRing_rxNoted, (x.rxChanged_rxNoted f ok).ncfgr]
  rfl

theorem rxStore_resource {p : Parsed} {g : Option PtpMsg} {badfcs : Bool} {errs : List Nat} {x : Device} {m : Memory}
    (bytes : (x.rxRing t).bytes ≠ 0) (step : rxDataStep x t f errs s = .resource m) :
    rxStore d t p g badfcs errs f x s = .next (s.withDma d m (x.rxResourceError t)) := by
  have nonzero : ¬ rxBufBytes x t = 0 := bytes
  simp only [rxDataStep, Device.rxRing] at step
  simp only [rxStore, nonzero, if_false, step]

theorem rxStore_busErr {p : Parsed} {g : Option PtpMsg} {badfcs : Bool} {errs : List Nat} {x : Device} {m : Memory}
    (bytes : (x.rxRing t).bytes ≠ 0) (step : rxDataStep x t f errs s = .busErr m) :
    rxStore d t p g badfcs errs f x s = .next (s.withDma d m (x.rxBusError t)) := by
  have nonzero : ¬ rxBufBytes x t = 0 := bytes
  simp only [rxDataStep, Device.rxRing] at step
  simp only [rxStore, nonzero, if_false, step]

/-- The write-back of a frame that the data step filled into descriptors, with a timestamp that fits (R366). -/
theorem rxStore_filled {ok : Bool} {errs : List Nat} {x : Device} {m : Memory} {n : Nat} {before : List (Word × Word)}
    {z : Word × Word} {a : Word} (bytes : (x.rxRing t).bytes ≠ 0)
    (step : rxDataStep x t f errs s = .filled m n (before ++ [z]) a)
    (fits : rxStamped x f = true → z.1.toNat + 12 < 2 ^ 32) :
    rxStore d t (parseFrame x.stackedVlan (f.length - 4) f) (rxMessage x f) (!ok) errs f (x.rxNoted f ok) s =
      let r := dmaWriteWords ⟨errs, s.cfg.holes⟩ m n (rxWriteBack x f ok before z)
      .next (s.withDma d r.1
        (if r.2 = (rxWriteBack x f ok before z).length then ((x.rxNoted f ok).setRxCur t a).rxDone t f
        else if r.2 ≤ (rxStatus x f before z.1 (rxLastWord x f ok (before.length + 1))).length then
          (x.rxNoted f ok).rxBusError t
        else ((x.rxNoted f ok).setRxCur t a).rxBusError t)) := by
  have same := x.rxChanged_rxNoted f ok
  have nonzero : ¬ rxBufBytes (x.rxNoted f ok) t = 0 := by
    have ring := x.rxRing_rxNoted f ok t
    exact fun zero => bytes (ring ▸ zero)
  rw [← rxDataStep_rxNoted (ok := ok)] at step
  simp only [rxDataStep, Device.rxRing] at step
  have low : (rxStamped x f && decide (2 ^ 32 ≤ z.1.toNat + 12)) = false := by
    cases stamped : rxStamped x f
    · rfl
    · exact decide_eq_false (Nat.not_le.mpr (fits stamped))
  have count : (before ++ [z]).length = before.length + 1 := List.length_append
  simp only [rxStore, nonzero, if_false, step, List.getLast?_concat, Option.getD_some, List.dropLast_concat,
    same.captureStamp_eq, same.rxEofWord_eq, count]
  rw [rxStatusWrites_eq, rxOwnWrites_eq, captureStamp_isSome, ← rxStamped, low, if_neg Bool.false_ne_true, same.ncfgr,
    ← rxLastWord, ← rxWriteBack]
  split_ifs <;> rfl

end Stored

/-! ### A frame that reaches an enabled queue, by how its data step ends -/

namespace RxReaches

variable {d : Dev} {f : List Byte} {dr : RxDraws} {s : State} {t : Fin 4}

/-- The frame leaves memory `m` and is reported, with the bits and the counter of its end (42_rx_ring R358, R372). -/
def Reported (s : State) (d : Dev) (f : List Byte) (dr : RxDraws) (t : Fin 4) (m : Memory) (rsr isr : Word)
    (c : Option Stat) (cur : Word) : Prop :=
  ∃ y, rxDevice d f dr s = .next { s.setDev d y with mem := m }
    ∧ RxReported (s.dev d) y f (fcsOk dr.runtFcs f) t rsr isr c cur

variable (h : RxReaches s d f dr t) (enabled : t = 0 ∨ ((s.dev d).queue t).rxQdis = false)
  (bytes : ((s.dev d).rxRing t).bytes ≠ 0)

include h enabled bytes

theorem reported_resource {m : Memory} (step : rxDataStep (s.dev d) t f dr.errs s = .resource m) :
    Reported s d f dr t m 1 4 (some .resourceErrorsRx) ((s.dev d).queue t).rxCur :=
  ⟨_, (h.rxDevice_stored enabled).trans (rxStore_resource (by rwa [Device.rxRing_rxNoted])
    (by rwa [rxDataStep_rxNoted])), Device.rxReported_resourceError h.clean.checks t⟩

theorem reported_busErr {m : Memory} (step : rxDataStep (s.dev d) t f dr.errs s = .busErr m) :
    Reported s d f dr t m 8 0x800 none ((s.dev d).queue t).rxCur :=
  ⟨_, (h.rxDevice_stored enabled).trans (rxStore_busErr (by rwa [Device.rxRing_rxNoted])
    (by rwa [rxDataStep_rxNoted])), Device.rxReported_busError h.clean.checks t⟩

section Filled

variable {m : Memory} {n : Nat} {before : List (Word × Word)} {z : Word × Word} {a : Word}
  (step : rxDataStep (s.dev d) t f dr.errs s = .filled m n (before ++ [z]) a)
  (fits : rxStamped (s.dev d) f = true → z.1.toNat + 12 < 2 ^ 32)

include step fits

/-- A frame whose write-back meets no bus error is stored (R366, R367). -/
theorem stored (noErr : NoBusErr dr.errs s.cfg) :
    ∃ y, rxDevice d f dr s = .next { s.setDev d y with
        mem := Memory.writeWords m (rxWriteBack (s.dev d) f (fcsOk dr.runtFcs f) before z) }
      ∧ RxStored (s.dev d) y t a f (fcsOk dr.runtFcs f) := by
  refine ⟨_, ?_, Device.rxStored_spec h.clean.checks t a⟩
  rw [h.rxDevice_stored enabled, rxStore_filled bytes step fits]
  simp only [dmaWriteWords_eq _ _ _ _ noErr.busErr, if_true]
  rfl

/-- A frame whose write-back meets a bus error at the word numbered `k` (R372). -/
theorem reported_wordError {k : Nat} (holes : s.cfg.holes = []) (failing : n + k ∈ dr.errs)
    (first : ∀ j ∈ dr.errs, n + k ≤ j)
    (short : k < (rxWriteBack (s.dev d) f (fcsOk dr.runtFcs f) before z).length) :
    Reported s d f dr t
      (Memory.writeWords m ((rxWriteBack (s.dev d) f (fcsOk dr.runtFcs f) before z).take k)) 8 0x800 none
      (if k ≤ (rxStatus (s.dev d) f before z.1 (rxLastWord (s.dev d) f (fcsOk dr.runtFcs f) (before.length + 1))).length
        then ((s.dev d).queue t).rxCur else a) := by
  have ends := (h.rxDevice_stored enabled).trans (rxStore_filled bytes step fits)
  rw [holes, dmaWriteWords_of_mem _ m n k failing first short] at ends
  simp only [short.ne, if_false] at ends
  refine ⟨_, ends, ?_⟩
  split
  · exact Device.rxReported_busError h.clean.checks t
  · exact Device.rxReported_busError_moved h.clean.checks t a

end Filled

end RxReaches

end Sys2Proof.Machine
end

section
/-! PROOF. The statements about frames that reach a queue (42_rx_ring R356-R367, R372): dropped for want of buffers or at a
bus error, or stored over one buffer or several. -/

namespace Sys2Proof.Machine

/-- Settles O46: a disabled queue, and a ring that ends before the frame does. -/
theorem rxResourceErrorDrops : Obligations.RxResourceErrorDrops := by
  intro d f dr s t reaches x ok cur bytes data dropped
  refine ⟨fun ⟨notFirst, disabled⟩ => ?_, fun descs a' noErr enabled some chain stop more fit buffers => ?_⟩
  · exact ⟨_, (reaches.rxDevice_disabledQueue notFirst disabled).trans (by cases d <;> rfl),
      Device.rxReported_resourceError reaches.clean.checks t⟩
  · have nonzero : (x.rxRing t).bytes ≠ 0 := Nat.pos_iff_ne_zero.mp some
    have fillable : (x.rxRing t).Fillable s.mem descs a' :=
      ⟨x.rxRing_offset_lt t nonzero, chain, fit, buffers.mono (fun _ h => h) (List.subset_cons_self _ _)⟩
    exact reaches.reported_resource enabled nonzero
      (rxFill_ends_resource fillable more (noErr.clean _ _) (buffers.mono (fun _ h => h) (by simp)) stop)

/-- The status words as the statements list them. -/
theorem rxStatus_eq (x : Device) (f : List Byte) (before : List (Word × Word)) (eof w : Word) :
    rxStatus x f before eof w = before.mapIdx (fun i r => (r.1 + 4, if i = 0 then 0x4000#32 else 0#32))
      ++ (if rxStamped x f then stampWords x.tsu eof else []) ++ [(eof + 4, w)] := by
  rw [rxStatus, rxMiddleWrites_true]

theorem rxLastWord_spec (x : Device) (f : List Byte) (ok : Bool) (k : Nat) :
    EofWord (rxLastWord x f ok k) x (parseFrame x.stackedVlan (f.length - 4) f) f ok (rxStored x.ncfgr f).length k :=
  rxEofWord_spec x _ f ok _ k (parseFrame_pcp_lt _ _ f)

/-- Settles O47: the read of a descriptor, a byte of the frame, a word of the write-back. -/
theorem rxBusErrorDrops : Obligations.RxBusErrorDrops := by
  intro d f dr s t before z a' k holes failing first reaches x p ok cur bytes off descs data stamped enabled chain more hold
    fit buffers stampFits stored dropped
  have nonzero : (x.rxRing t).bytes ≠ 0 := by
    intro zero
    have empty : bytes = 0 := zero
    rw [empty] at more hold
    omega
  have fillable : (x.rxRing t).Fillable s.mem descs a' := ⟨x.rxRing_offset_lt t nonzero, chain, fit, buffers⟩
  have step_eq : rxDataStep x t f dr.errs s = rxFill ⟨dr.errs, []⟩ (x.rxRing t) (data.length + 1) s.mem 0
      (x.rxRing t).first [] data := by
    rw [rxDataStep, holes]
    rfl
  have clean := clean_of_first first
  have fails := fails_of_mem failing
  have split (i : Nat) (le : i ≤ before.length) : ∃ xs y ys, descs = xs ++ y :: ys ∧ xs.length = i := by
    have inside : i < descs.length := by
      rw [List.length_append]
      exact Nat.lt_succ_of_le le
    exact ⟨descs.take i, descs[i], descs.drop (i + 1), by simp, List.length_take_of_le inside.le⟩
  refine ⟨fun i le number => ?_, fun n inside number => ?_, rxLastWord x f ok (before.length + 1), rxLastWord_spec .., ?_⟩
  · obtain ⟨xs, y, ys, parts, rfl⟩ := split i le
    have short : xs.length * bytes < off + data.length := (Nat.mul_le_mul_right bytes le).trans_lt more
    have step := rxFill_ends_readError (parts ▸ fillable) short (clean.mono le_rfl number.ge) (number ▸ fails)
    rw [← parts] at step
    exact reaches.reported_busErr enabled nonzero (step_eq.trans step)
  · have positive : 0 < bytes := Nat.pos_of_ne_zero nonzero
    have low := Nat.div_mul_le_self (off + n) bytes
    have high := Nat.lt_div_mul_add (a := off + n) positive
    have reach : (off + n) / bytes < before.length + 1 :=
      (Nat.div_lt_iff_lt_mul positive).mpr ((Nat.add_lt_add_left inside off).trans_le hold)
    obtain ⟨xs, y, ys, parts, count⟩ := split _ (Nat.lt_succ_iff.mp reach)
    rw [← count] at low high number
    have held : xs.length * bytes + (x.rxRing t).start xs = off + (x.rxRing t).held xs.length :=
      RxRing.start_held xs fillable.offset
    have start : (x.rxRing t).start xs ≤ off := (x.rxRing t).start_le xs
    have short : off < bytes := fillable.offset
    have place : k = xs.length + 1 + n := by omega
    have room : n - (x.rxRing t).held xs.length < bytes - (x.rxRing t).start xs := by omega
    have step := rxFill_ends_byteError (parts ▸ fillable) inside (RxRing.held_le low) room
      (clean.mono le_rfl place.ge) (place ▸ fails)
    rw [← parts] at step
    exact reaches.reported_busErr enabled nonzero (step_eq.trans step)
  · intro status own n short number
    have step := rxFill_ends_filled fillable more hold (clean.mono le_rfl (by omega))
    have words : rxWriteBack x f ok before z = status ++ own := by rw [rxWriteBack, rxStatus_eq]; rfl
    have whole : stored data.length = storeOver bytes off s.mem descs data := by
      simp only [stored, List.take_length]
    have ends := reaches.reported_wordError enabled nonzero (step_eq.trans step) stampFits holes (number ▸ failing)
      (number ▸ first) (by rw [words, List.length_append]; exact short)
    rw [words, rxStatus_eq] at ends
    rw [whole]
    exact ends

/-- Settles O49: one descriptor takes the frame. -/
theorem rxStoresOneBuffer : Obligations.RxStoresOneBuffer := by
  intro d f dr s t a' noErr enabled noOverrun clean x p ok cur w0 data stamped routed queue own some hold fit next stampFits
  have reaches : RxReaches s d f dr t := ⟨enabled, noOverrun, clean, routed⟩
  have nonzero : (x.rxRing t).bytes ≠ 0 := Nat.pos_iff_ne_zero.mp some
  have short := x.rxRing_offset_lt t nonzero
  have offset : (x.rxRing t).start [] = ncfgrRbof x.ncfgr := rfl
  have step : rxDataStep x t f dr.errs s = .filled
      (Memory.writeBytes s.mem ((rxAddr w0).toNat + ncfgrRbof x.ncfgr) data) (0 + 1 + data.length) ([] ++ [(cur, w0)]) a' :=
    rxFill_last noErr.busErr 0 (Nat.succ_pos _) rfl own (.inl rfl) next (Nat.le_sub_of_add_le' hold) fit
  obtain ⟨y, done, result⟩ := reaches.stored queue nonzero step stampFits noErr
  have words : rxWriteBack x f ok [] (cur, w0) = (if stamped then stampWords x.tsu cur else [])
      ++ [(cur + 4, rxLastWord x f ok 1), (cur, (w0 &&& 0xFFFFFFFB#32) ||| (if stamped then 4#32 else 0) ||| 1#32)] :=
    List.append_assoc _ [_] [_]
  rw [words] at done
  exact ⟨y, rxLastWord x f ok 1, done, rxLastWord_spec x f ok 1, result⟩

/-- Settles O50: a chain of descriptors takes the frame. -/
theorem rxStoresSeveralBuffers : Obligations.RxStoresSeveralBuffers := by
  intro d f dr s t h mid z a' noErr enabled noOverrun clean x p ok cur bytes descs data stamped routed queue chain more hold
    fit buffers stampFits
  have reaches : RxReaches s d f dr t := ⟨enabled, noOverrun, clean, routed⟩
  have nonzero : (x.rxRing t).bytes ≠ 0 := by
    intro zero
    have empty : bytes = 0 := zero
    rw [empty] at more hold
    omega
  have fillable : (x.rxRing t).Fillable s.mem (h :: mid ++ [z]) a' :=
    ⟨x.rxRing_offset_lt t nonzero, chain, fit, fun r hr a ha => by
      obtain ⟨u, hu, rfl⟩ := List.mem_map.mp ha
      exact buffers r hr u hu⟩
  have step : rxDataStep x t f dr.errs s = _ := rxFill_ends_filled fillable more hold (noErr.clean _ _)
  obtain ⟨y, done, result⟩ := reaches.stored queue nonzero step stampFits noErr
  have words : rxWriteBack x f ok (h :: mid) z = [(h.1 + 4, 0x4000#32)] ++ mid.map (fun r => (r.1 + 4, 0#32))
      ++ (if stamped then stampWords x.tsu z.1 else []) ++ [(z.1 + 4, rxLastWord x f ok (mid.length + 2))]
      ++ (h :: mid).map (fun r => (r.1, (r.2 &&& 0xFFFFFFFB#32) ||| 1#32))
      ++ [(z.1, (z.2 &&& 0xFFFFFFFB#32) ||| (if stamped then 4#32 else 0) ||| 1#32)] := by
    rw [rxWriteBack, rxStatus, rxMiddleWrites_cons, rxReturns, ← List.append_assoc]
    rfl
  rw [words] at done
  exact ⟨y, rxLastWord x f ok (mid.length + 2), done, rxLastWord_spec x f ok _, result⟩

end Sys2Proof.Machine
end

section
/-! PROOF. What a received frame leaves unchanged (42_rx_ring R350, R358, R360, R366, R372; 20_memory R112), whatever becomes
of it: the bytes outside the buffers and the words of the descriptors the walk can reach. -/

namespace Sys2Proof.Machine

/-! ### The data step -/

/-- A byte-list write leaves every byte outside it, cut short or not. -/
theorem read_dmaWriteBytes (o : Oracle) (bs : List Byte) (m : Memory) (n a b : Nat) (outside : b < a ∨ a + bs.length ≤ b) :
    Memory.read (dmaWriteBytes o m n a bs).1 b = Memory.read m b := by
  induction bs generalizing m n a with
  | nil => rfl
  | cons v rest ih =>
    rw [List.length_cons] at outside
    rw [dmaWriteBytes]
    split
    · rfl
    · rw [ih _ _ _ (by omega), Memory.read_write_of_ne _ _ _ _ (by omega)]

/-- However the data step ends, byte `b` is as in memory `m`, and the descriptors that it filled are among `descs`. -/
def RxFill.Keeps (b : Nat) (m : Memory) (descs : List (Word × Word)) : RxFill → Prop
  | .filled m' _ used _ => Memory.read m' b = Memory.read m b ∧ (∃ before z, used = before ++ [z]) ∧ used ⊆ descs
  | .resource m' => Memory.read m' b = Memory.read m b
  | .busErr m' => Memory.read m' b = Memory.read m b
  | .fault _ => True

theorem RxFill.Keeps.congr {b : Nat} {m m' : Memory} {descs : List (Word × Word)} {r : RxFill}
    (same : Memory.read m' b = Memory.read m b) (h : r.Keeps b m' descs) : r.Keeps b m descs := by
  cases r with
  | filled => exact ⟨h.1.trans same, h.2⟩
  | resource | busErr => exact h.trans same
  | fault => trivial

theorem RxFill.Keeps.refl_resource (b : Nat) (m : Memory) (descs : List (Word × Word)) :
    (RxFill.resource m).Keeps b m descs := rfl

/-- A chain of descriptors ends the data step: it holds what is left of a frame, or the ring ends behind it (R358). -/
def RxRing.Ends (g : RxRing) (m : Memory) (acc descs : List (Word × Word)) (a' : Word) (n : Nat) : Prop :=
  g.start acc + n ≤ descs.length * g.bytes
    ∨ (BuffersOff g.bytes descs [a'] ∧ ((acc ++ descs ≠ [] ∧ a' = g.first) ∨ rxOwn (Memory.read32 m a') = true))

theorem rxFill_keeps (o : Oracle) (g : RxRing) {b : Nat} {a' : Word} (hoff : g.offset ≤ g.bytes) (fuel : Nat)
    (descs : List (Word × Word)) {m : Memory} (n : Nat) {a : Word} {acc : List (Word × Word)} {rest : List Byte}
    (chain : RxChain m g.base g.first g.stride a descs a') (round : descs = [] ∨ acc = [] ∨ a ≠ g.first)
    (buffers : BuffersOff g.bytes descs (descs.map Prod.fst))
    (outside : ∀ r ∈ descs, b < (rxAddr r.2).toNat ∨ (rxAddr r.2).toNat + g.bytes ≤ b)
    (left : 0 < rest.length) (ends : g.Ends m acc descs a' rest.length) :
    (rxFill o g fuel m n a acc rest).Keeps b m (acc ++ descs) := by
  induction descs generalizing fuel m n a acc rest with
  | nil =>
    obtain rfl : a = a' := chain
    obtain short | ⟨-, stop⟩ := ends
    · rw [List.length_nil, Nat.zero_mul] at short
      omega
    · rw [List.append_nil] at stop
      cases fuel with
      | zero => exact RxFill.Keeps.refl_resource b m _
      | succ fuel =>
        cases answer : o.busErr n a.toNat 4 with
        | true => rw [rxFill_readError answer]; rfl
        | false => rw [rxFill_resource answer stop]; rfl
  | cons p tail ih =>
    cases fuel with
    | zero => exact RxFill.Keeps.refl_resource b m _
    | succ fuel =>
      obtain ⟨rfl, word, own, c, next, follow, chain⟩ := chain
      have start := (g.start_le acc).trans hoff
      rw [rxFill_owned fuel n rest word.symm own (by simpa using round) next]
      simp only
      -- the bytes written, all or some, lie in the buffer
      have beside (v : Nat) (h : v < (rxAddr p.2).toNat ∨ (rxAddr p.2).toNat + g.bytes ≤ v) :
          Memory.read (dmaWriteBytes o m (n + 1) ((rxAddr p.2).toNat + g.start acc)
            (rest.take (min (g.bytes - g.start acc) rest.length))).1 v = Memory.read m v := by
        have size := List.length_take_le (min (g.bytes - g.start acc) rest.length) rest
        exact read_dmaWriteBytes o _ m _ _ v (by omega)
      generalize dmaWriteBytes o m (n + 1) ((rxAddr p.2).toNat + g.start acc)
        (rest.take (min (g.bytes - g.start acc) rest.length)) = r at beside ⊢
      have same := beside b (outside p (by simp))
      have word32 (w : Word) (h : BuffersOff g.bytes (p :: tail) [w]) : Memory.read32 r.1 w = Memory.read32 m w :=
        Memory.read32_congr fun v hv => beside v (h p (by simp) w (by simp) v hv)
      split_ifs with err overflow failed last
      · rfl
      · trivial
      · exact same
      · exact ⟨same, ⟨acc, _, rfl⟩, by simp⟩
      · have fresh : g.start (acc ++ [p]) = 0 := by simp [RxRing.start]
        have rounds : tail = [] ∨ acc ++ [p] = [] ∨ c ≠ g.first := (eq_or_ne tail []).imp id fun h => .inr (follow h)
        have chain' := chain.congr (m' := r.1) fun w hw => word32 w
          (buffers.mono (fun _ h => h) (by simpa using .inr (by simpa using hw)))
        have kept := ih fuel (n + 1 + min (g.bytes - g.start acc) rest.length) chain' rounds
          (buffers.mono (by simp) (by simp)) (fun r hr => outside r (by simp [hr]))
          (rest := rest.drop (min (g.bytes - g.start acc) rest.length)) (acc := acc ++ [p]) (by rw [List.length_drop]; omega)
          (ends.imp (fun room => by
            rw [List.length_cons, Nat.succ_mul] at room
            rw [fresh, List.length_drop]
            omega) fun ⟨behind, stop⟩ => ⟨behind.mono (by simp) (fun _ h => h), by
              rwa [word32 a' behind, List.append_assoc]⟩)
        rw [List.append_assoc] at kept
        exact kept.congr same

/-! ### The write-back -/

/-- The word at `a` is one of those a frame's descriptors are returned with (42_rx_ring R366; 30_encoding R149). -/
def RxWord (extended : Bool) (descs : List (Word × Word)) (a : Word) : Prop :=
  ∃ r ∈ descs, a = r.1 ∨ a = r.1 + 4 ∨ (extended = true ∧ (a = r.1 + 8 ∨ a = r.1 + 12))

theorem fst_of_mem_rxMiddleWrites {v : Word × Word} (l : List (Word × Word)) (first : Bool)
    (h : v ∈ rxMiddleWrites first l) : ∃ r ∈ l, v.1 = r.1 + 4 := by
  induction l generalizing first with
  | nil => exact absurd h List.not_mem_nil
  | cons p tail ih =>
    rcases List.mem_cons.mp h with rfl | h
    · exact ⟨p, by simp, rfl⟩
    · obtain ⟨r, hr, here⟩ := ih false h
      exact ⟨r, by simp [hr], here⟩

theorem rxWord_of_mem {extended tsp : Bool} {before : List (Word × Word)} {z v : Word × Word} {w0 w1 : Word}
    {ts : Option (BitVec 64 × BitVec 30)} (stamp : ts.isSome = true → extended = true)
    (h : v ∈ rxStatusWrites before z.1 w1 ts ++ rxOwnWrites before z.1 w0 tsp) : RxWord extended (before ++ [z]) v.1 := by
  unfold rxStatusWrites rxOwnWrites at h
  simp only [List.mem_append] at h
  rcases h with ((middle | stamped) | last) | own | own
  · obtain ⟨r, hr, here⟩ := fst_of_mem_rxMiddleWrites before true middle
    exact ⟨r, by simp [hr], .inr (.inl here)⟩
  · cases ts with
    | none => exact absurd stamped List.not_mem_nil
    | some ts =>
      have place : v.1 = z.1 + 8 ∨ v.1 = z.1 + 12 := by
        rcases List.mem_pair.mp stamped with rfl | rfl
        · exact .inl rfl
        · exact .inr rfl
      exact ⟨z, by simp, .inr (.inr ⟨stamp rfl, place⟩)⟩
  · obtain rfl := List.mem_singleton.mp last
    exact ⟨z, by simp, .inr (.inl rfl)⟩
  · obtain ⟨r, hr, rfl⟩ := List.mem_map.mp own
    exact ⟨r, by simp [hr], .inl rfl⟩
  · obtain rfl := List.mem_singleton.mp own
    exact ⟨z, by simp, .inl rfl⟩

/-! ### The whole step -/

/-- The next state of a result, if there is one, is `s` but for device `d` and memory, of which `P` holds. -/
def LeavesMemory (d : Dev) (s : State) (P : Memory → Prop) (r : Result) : Prop :=
  ∀ u, r = .next u → ∃ y m, u = s.withDma d m y ∧ P m

namespace LeavesMemory

variable {d : Dev} {s : State} {P : Memory → Prop}

theorem fault (r : Fault) : LeavesMemory d s P (.fault r) := by intro u e; cases e

theorem withDma {m : Memory} (h : P m) (y : Device) : LeavesMemory d s P (.next (s.withDma d m y)) := by
  intro u e
  cases e
  exact ⟨y, m, rfl, h⟩

theorem ite {c : Prop} [Decidable c] {a b : Result} (h : LeavesMemory d s P a) (k : LeavesMemory d s P b) :
    LeavesMemory d s P (if c then a else b) := by
  split
  · exact h
  · exact k

end LeavesMemory

/-- What a frame does to memory behind its data step (R366, R372): words of its descriptors are written. -/
theorem rxStore_leavesMemory {d : Dev} {t : Fin 4} {p : Parsed} {g : Option PtpMsg} {badfcs : Bool} {errs : List Nat}
    {f : List Byte} {x : Device} {s : State} {P : Memory → Prop}
    (resource : ∀ m, rxDataStep x t f errs s = .resource m → P m)
    (busErr : ∀ m, rxDataStep x t f errs s = .busErr m → P m)
    (filled : ∀ m n descs a, rxDataStep x t f errs s = .filled m n descs a → ∀ (o : Oracle) (k : Nat)
      (ws : List (Word × Word)), (descs ≠ [] → ∀ v ∈ ws, RxWord (dmacfgRxext x.dmacfg) descs v.1) →
      P (dmaWriteWords o m k ws).1) :
    LeavesMemory d s P (rxStore d t p g badfcs errs f x s) := by
  simp only [rxDataStep, Device.rxRing] at resource busErr filled
  unfold rxStore
  simp only
  refine .ite (.fault _) ?_
  split
  · exact .fault _
  · next m step => exact .withDma (resource m step) _
  · next m step => exact .withDma (busErr m step) _
  · next m n descs a step =>
    have stamp (g : Option PtpMsg) : (captureStamp x.tsu (dmacfgRxext x.dmacfg) (tsMode x.rxBdControl) g).isSome = true →
        dmacfgRxext x.dmacfg = true := by
      rw [captureStamp_isSome]
      exact fun h => (Bool.and_eq_true_iff.mp h).1
    have words (w1 : Word) (some : descs ≠ []) (v : Word × Word)
        (h : v ∈ rxStatusWrites descs.dropLast (descs.getLast?.getD (0, 0)).1 w1
            (captureStamp x.tsu (dmacfgRxext x.dmacfg) (tsMode x.rxBdControl) g)
          ++ rxOwnWrites descs.dropLast (descs.getLast?.getD (0, 0)).1 (descs.getLast?.getD (0, 0)).2
            (captureStamp x.tsu (dmacfgRxext x.dmacfg) (tsMode x.rxBdControl) g).isSome) :
        RxWord (dmacfgRxext x.dmacfg) descs v.1 := by
      obtain ⟨before, z, rfl⟩ := (List.eq_nil_or_concat descs).resolve_left some
      rw [List.concat_eq_append, List.getLast?_concat, List.dropLast_concat, Option.getD_some] at h
      rw [List.concat_eq_append]
      exact rxWord_of_mem (stamp g) h
    have first (some : descs ≠ []) (v : Word × Word) (h : v ∈ rxMiddleWrites true descs.dropLast) :
        RxWord (dmacfgRxext x.dmacfg) descs v.1 :=
      words 0 some v (List.mem_append_left _ (List.mem_append_left _ (List.mem_append_left _ h)))
    have written := filled m n descs a step ⟨errs, s.cfg.holes⟩ n
    exact .ite (.ite (.fault _) (.withDma (written _ first) _)) (.ite (.withDma (written _ (words _)) _)
      (.ite (.withDma (written _ (words _)) _) (.withDma (written _ (words _)) _)))

/-- A frame reaches an enabled queue, or leaves everything but its device as it is (R355, R356). -/
theorem rxDevice_cases (d : Dev) (f : List Byte) (dr : RxDraws) (s : State) :
    (∃ t, RxReaches s d f dr t ∧ (t = 0 ∨ ((s.dev d).queue t).rxQdis = false))
      ∨ ∃ y, rxDevice d f dr s = .next (s.setDev d y) := by
  cases enabled : ncrRe (s.dev d).ncr with
  | false => exact .inr ⟨s.dev d, by rw [rxDevice_disabled f dr enabled, State.setDev_dev]⟩
  | true =>
  cases overrun : dr.overrun with
  | true => exact .inr ⟨_, rxDevice_overrun enabled overrun⟩
  | false =>
  cases pass : (rxChecks (s.dev d).ncfgr (s.dev d).jml (parseFrame (s.dev d).stackedVlan (f.length - 4) f) f.length
      (fcsOk dr.runtFcs f)).2 with
  | false => exact .inr ⟨_, rxDevice_fails enabled overrun (Prod.ext rfl pass)⟩
  | true =>
  cases accepts : accepted (s.dev d) f with
  | false => exact .inr ⟨_, rxDevice_dropped enabled overrun pass (.inl accepts)⟩
  | true =>
  cases routed : targetQueue (s.cfg.nQueues d) dr.route
      (screen s.cfg (s.dev d) dr.tests (parseFrame (s.dev d).stackedVlan (f.length - 4) f) f) with
  | none => exact .inr ⟨_, rxDevice_dropped enabled overrun pass (.inr routed)⟩
  | some t =>
    have reaches : RxReaches s d f dr t := ⟨enabled, overrun, ⟨pass, accepts⟩, routed⟩
    by_cases off : t ≠ 0 ∧ ((s.dev d).queue t).rxQdis = true
    · exact .inr ⟨_, reaches.rxDevice_disabledQueue off.1 off.2⟩
    · exact .inl ⟨t, reaches, by simpa [or_iff_not_imp_left] using off⟩

/-- Settles O48: a frame that reaches no enabled queue leaves memory, and one that reaches one keeps to its ring. -/
theorem rxWritesOnlyItsRing : Obligations.RxWritesOnlyItsRing := by
  intro d f dr s u done
  obtain ⟨t, reaches, enabled⟩ | ⟨y, dropped⟩ := rxDevice_cases d f dr s
  · have stored := (reaches.rxDevice_stored enabled).symm.trans done
    refine ⟨?_, fun nowhere => ?_, ?_⟩
    · obtain ⟨y, m, rfl, -⟩ := rxStore_leavesMemory (P := fun _ => True) (fun _ _ => trivial) (fun _ _ => trivial)
        (fun _ _ _ _ _ _ _ _ _ => trivial) u stored
      exact ⟨y, m, rfl⟩
    · rcases nowhere t with not | ⟨notFirst, disabled⟩
      · exact absurd reaches not
      · rcases enabled with first | on
        · exact absurd first notFirst
        · exact absurd disabled (by simp [on])
    · intro t' descs a' b reaches' x cur bytes chain buffers ends outside
      obtain rfl : t = t' := Option.some.inj (reaches.routed.symm.trans reaches'.routed)
      have nonzero : (x.rxRing t).bytes ≠ 0 := fun zero => by
        rw [rxStore_noBuffers (by rwa [Device.rxRing_rxNoted])] at stored
        cases stored
      have long : 0 < (rxStored x.ncfgr f).length := by
        have size := (rxChecks_pass reaches.clean.checks).1
        rw [length_rxStored]
        split <;> omega
      have step : (rxDataStep x t f dr.errs s).Keeps b s.mem descs :=
        rxFill_keeps _ (x.rxRing t) (x.rxRing_offset_lt t nonzero).le _ descs 0 chain (.inr (.inl rfl)) buffers
          (fun r hr => (outside r hr).2.2.2) long (by rw [RxRing.Ends, length_rxStored]; exact ends)
      obtain ⟨y, m, rfl, same⟩ := rxStore_leavesMemory (P := fun m => Memory.read m b = Memory.read s.mem b)
        (fun m e => by
          rw [rxDataStep_rxNoted] at e
          exact (e ▸ step : (RxFill.resource m).Keeps b s.mem descs))
        (fun m e => by
          rw [rxDataStep_rxNoted] at e
          exact (e ▸ step : (RxFill.busErr m).Keeps b s.mem descs))
        (fun m n used a e o k ws words => by
          rw [rxDataStep_rxNoted] at e
          obtain ⟨kept, ⟨before, z, filled⟩, among⟩ : (RxFill.filled m n used a).Keeps b s.mem descs := e ▸ step
          refine (read_dmaWriteWords o ws m k b fun v hv => ?_).trans kept
          obtain ⟨r, hr, place⟩ := words (by simp [filled]) v hv
          obtain ⟨own, status, stamps, -⟩ := outside r (among hr)
          rw [(x.rxChanged_rxNoted f _).dmacfg] at place
          rcases place with here | here | ⟨extended, here | here⟩ <;> rw [here]
          · exact own
          · exact status
          · exact (stamps extended).1
          · exact (stamps extended).2) u stored
      exact same
  · obtain rfl : s.setDev d y = u := by
      rw [dropped] at done
      cases done
      rfl
    have mem := State.setDev_mem s d y
    exact ⟨⟨y, s.mem, by cases d <;> rfl⟩, fun _ => mem, fun _ _ _ _ _ _ _ _ _ => by rw [mem]⟩

end Sys2Proof.Machine
end

section
/-! PROOF. The screeners (43_classifier R430-R440): what each test compares, and which filter's verdict is taken. -/

namespace Sys2Proof.Machine

/-! ### The tests (R430-R433) -/

/-- A test counts where its enable is set. -/
theorem enabledTest_iff {enable test : Bool} : (!enable || test) = true ↔ (enable = true → test = true) := by
  cases enable <;> simp

theorem field_lt (w : Word) (lo len : Nat) : field w lo len < 2 ^ len := BitVec.isLt _

theorem t1Active_iff (w : Word) : t1Active w = true ↔ w.getLsbD 29 = true ∨ w.getLsbD 28 = true := by
  rw [t1Active, Bool.or_eq_true]
  exact or_comm

theorem t2Active_iff (w : Word) : t2Active w = true ↔ ∃ b ∈ [12, 8, 18, 24, 30], w.getLsbD b = true := by
  simp [t2Active, or_assoc]

/-- A Type-1 filter (R430): the UDP destination port and the DS value. -/
theorem t1Match_iff (w : Word) (p : Parsed) (f : List Byte) : t1Match w p f = true ↔
    (w.getLsbD 29 = true → p.transport f = .udp ∧ ∃ l4, p.l4 = some l4 ∧ be16 f (l4 + 2) = field w 12 16)
      ∧ (w.getLsbD 28 = true → p.ds f = some (field w 4 8)) := by
  rw [t1Match, Bool.and_eq_true, enabledTest_iff, enabledTest_iff, Bool.and_eq_true, decide_eq_true_iff,
    decide_eq_true_iff]
  cases p.l4 <;> simp

section Compare

variable (w0 w1 : Word) (p : Parsed) (f : List Byte)

/-- Where a compare starts, as OFFTYPE says (R432). -/
def compareBase : Option Nat :=
  match field w1 7 2 with
  | 0 => some 0
  | 1 => if p.et.isSome then some p.l3 else none
  | 2 => p.l4
  | _ => p.l5 f

/-- The compare at the base `b`: 4 bytes whole, or 2 bytes under the mask (R432). -/
def compareAt (b : Nat) : Bool :=
  let i := b + field w1 0 7
  if w1.getLsbD 9 then decide (i + 4 ≤ p.len) && decide (be32 f i = w0.toNat)
  else decide (i + 2 ≤ p.len) && decide (be16 f i &&& field w0 0 16 = field w0 16 16 &&& field w0 0 16)

theorem compareTest_eq : compareTest w0 w1 p f = (compareBase w1 p f).any (compareAt w0 w1 p f) := by
  change (match compareBase w1 p f with | none => false | some b => compareAt w0 w1 p f b) = _
  cases compareBase w1 p f <;> rfl

theorem compareBase_eq_some_iff (b : Nat) : compareBase w1 p f = some b ↔
    (field w1 7 2 = 0 ∧ b = 0) ∨ (field w1 7 2 = 1 ∧ p.et ≠ none ∧ b = p.l3)
      ∨ (field w1 7 2 = 2 ∧ p.l4 = some b) ∨ (field w1 7 2 = 3 ∧ p.l5 f = some b) := by
  have small : field w1 7 2 < 4 := field_lt w1 7 2
  unfold compareBase
  generalize field w1 7 2 = offtype at small
  match offtype with
  | 0 => simpa using eq_comm
  | 1 => simpa [Option.isSome_iff_ne_none] using fun _ => eq_comm
  | 2 => simp
  | 3 => simp

theorem compareAt_iff (b : Nat) : compareAt w0 w1 p f b = true ↔
    (w1.getLsbD 9 = true → b + field w1 0 7 + 4 ≤ p.len ∧ be32 f (b + field w1 0 7) = w0.toNat)
      ∧ (w1.getLsbD 9 = false → b + field w1 0 7 + 2 ≤ p.len
        ∧ be16 f (b + field w1 0 7) &&& field w0 0 16 = field w0 16 16 &&& field w0 0 16) := by
  unfold compareAt
  cases w1.getLsbD 9 <;> simp

theorem compareTest_iff : compareTest w0 w1 p f = true ↔
    ∃ b, compareBase w1 p f = some b ∧ compareAt w0 w1 p f b = true := by
  rw [compareTest_eq, Option.any_eq_true]

end Compare

/-- A register file read at a number that has a register. -/
theorem getElem?_getD_eq_ofNat {n i : Nat} [NeZero n] (v : Vector Word n) (inside : i < n) :
    v[i]?.getD 0 = v[Fin.ofNat n i] := by
  simp [Fin.ofNat, Nat.mod_eq_of_lt inside, inside]

/-- A compare test of a Type-2 filter: its register, or the draw where there is none (R431). -/
theorem cmpTest_iff {x : Device} {n i : Nat} {draw : Bool} {p : Parsed} {f : List Byte} (inside : i < 32) :
    cmpTest x n i draw p f = true ↔
      if i < n then compareTest x.cmpW0[Fin.ofNat 32 i] x.cmpW1[Fin.ofNat 32 i] p f = true else draw = true := by
  rw [cmpTest, getElem?_getD_eq_ofNat _ inside, getElem?_getD_eq_ofNat _ inside]
  split <;> rfl

/-- A Type-2 filter (R433): the ethertype, the priority and the three compares. -/
theorem t2Match_iff (x : Device) (nEth nCmp : Nat) (tests : List Bool) (n : Nat) (w : Word) (p : Parsed)
    (f : List Byte) : t2Match x nEth nCmp tests n w p f = true ↔
      (w.getLsbD 12 = true →
          if field w 9 3 < nEth then p.et = some (field x.ethtype[Fin.ofNat 8 (field w 9 3)] 0 16)
          else tests.getD (4 * n) false = true)
        ∧ (w.getLsbD 8 = true → 1 ≤ p.tags ∧ p.pcp = field w 4 3)
        ∧ ∀ e ∈ [(18, 13, 1), (24, 19, 2), (30, 25, 3)], w.getLsbD e.1 = true →
          let i := field w e.2.1 5
          if i < nCmp then compareTest x.cmpW0[Fin.ofNat 32 i] x.cmpW1[Fin.ofNat 32 i] p f = true
          else tests.getD (4 * n + e.2.2) false = true := by
  have ethertype : (if field w 9 3 < nEth then decide (p.et = some (field (x.ethtype[field w 9 3]?.getD 0) 0 16))
      else tests.getD (4 * n) false) = true ↔ if field w 9 3 < nEth then
        p.et = some (field x.ethtype[Fin.ofNat 8 (field w 9 3)] 0 16) else tests.getD (4 * n) false = true := by
    rw [getElem?_getD_eq_ofNat _ (field_lt w 9 3)]
    split
    · exact decide_eq_true_iff
    · rfl
  simp only [t2Match, Bool.and_eq_true, enabledTest_iff, cmpTest_iff (field_lt w _ 5), decide_eq_true_iff, Nat.add_zero,
    ethertype, List.forall_mem_cons, List.not_mem_nil, false_implies, implies_true, and_true, and_assoc]

/-- Settles O54: each filter is the conjunction of its enabled tests. -/
theorem screenerMatches : Obligations.ScreenerMatches := by
  refine ⟨fun w => ⟨t1Active_iff w, t2Active_iff w⟩, t1Match_iff, fun w0 w1 p f => ?_, t2Match_iff⟩
  simp only [compareTest_iff, compareBase_eq_some_iff, compareAt_iff]

/-! ### The first filter that matches (R440) -/

section FirstVerdict

variable {hit : Nat → Word → Bool} {act : Word → Verdict}

theorem firstVerdict_eq_none {l : List Word} : ∀ {k : Nat}, (∀ i w, l[i]? = some w → hit (k + i) w = false) →
    firstVerdict hit act k l = none := by
  induction l with
  | nil => exact fun _ => rfl
  | cons v rest ih =>
    intro k misses
    have head : hit k v = false := misses 0 v rfl
    rw [firstVerdict, head, if_neg Bool.false_ne_true]
    refine ih fun i w there => ?_
    rw [Nat.add_right_comm, Nat.add_assoc]
    exact misses (i + 1) w there

theorem firstVerdict_eq_some {w : Word} {l : List Word} : ∀ {k i : Nat}, l[i]? = some w → hit (k + i) w = true →
    (∀ j < i, ∀ u, l[j]? = some u → hit (k + j) u = false) → firstVerdict hit act k l = some (act w) := by
  induction l with
  | nil => simp
  | cons v rest ih =>
    rintro k (_ | i) there hits misses
    · obtain rfl : v = w := Option.some.inj there
      rw [firstVerdict]
      exact if_pos hits
    · have head : hit k v = false := misses 0 (by omega) v rfl
      have later (j : Nat) : k + 1 + j = k + (j + 1) := by omega
      rw [firstVerdict, head, if_neg Bool.false_ne_true]
      refine ih (i := i) there (by rwa [later]) fun j before u here => ?_
      rw [later]
      exact misses (j + 1) (by omega) u here

variable {n m : Nat} {v : Vector Word n}

theorem getElem?_toList_take_eq_some {i : Nat} {w : Word} :
    (v.toList.take m)[i]? = some w ↔ ∃ k : Fin n, k.val = i ∧ k.val < m ∧ v[k] = w := by
  rw [List.getElem?_take, Option.ite_none_right_eq_some, Vector.getElem?_toList, Vector.getElem?_eq_some_iff]
  constructor
  · rintro ⟨small, inside, value⟩
    exact ⟨⟨i, inside⟩, rfl, small, value⟩
  · rintro ⟨k, rfl, small, value⟩
    exact ⟨small, k.isLt, value⟩

/-- None of the first `m` filters of a register file matches. -/
theorem firstVerdict_vector_eq_none (misses : ∀ k : Fin n, k.val < m → hit k v[k] = false) :
    firstVerdict hit act 0 (v.toList.take m) = none :=
  firstVerdict_eq_none fun i w there => by
    obtain ⟨k, rfl, small, rfl⟩ := getElem?_toList_take_eq_some.mp there
    rw [Nat.zero_add]
    exact misses k small

/-- Filter `k` is the lowest of the first `m` that matches. -/
theorem firstVerdict_vector_eq_some {k : Fin n} (small : k.val < m) (hits : hit k v[k] = true)
    (misses : ∀ j < k, hit j v[j] = false) : firstVerdict hit act 0 (v.toList.take m) = some (act v[k]) := by
  refine firstVerdict_eq_some (i := k) (getElem?_toList_take_eq_some.mpr ⟨k, rfl, small, rfl⟩)
    (by rwa [Nat.zero_add]) fun i before w there => ?_
  obtain ⟨j, rfl, -, rfl⟩ := getElem?_toList_take_eq_some.mp there
  rw [Nat.zero_add]
  exact misses j before

end FirstVerdict

section Screen

variable {c : Params} {x : Device} {tests : List Bool} {p : Parsed} {f : List Byte}

/-- The first Type-1 filter that matches decides (R440). -/
theorem screen_of_t1 {n : Fin 16} (small : n.val < c.nT1) (hits : (t1Active x.t1[n] && t1Match x.t1[n] p f) = true)
    (misses : ∀ k < n, (t1Active x.t1[k] && t1Match x.t1[k] p f) = false) :
    screen c x tests p f = t1Verdict x.t1[n] := by
  rw [screen, firstVerdict_vector_eq_some (hit := fun _ w => t1Active w && t1Match w p f) small hits misses]

/-- Where no Type-1 filter matches, the Type-2 filters decide, and queue 0 is left (R440). -/
theorem screen_of_not_t1
    (misses : ∀ k : Fin 16, k.val < c.nT1 → (t1Active x.t1[k] && t1Match x.t1[k] p f) = false) :
    screen c x tests p f = (firstVerdict (fun k w => t2Active w && t2Match x c.nEth c.nCmp tests k w p f) t2Verdict 0
      (x.t2.toList.take c.nT2)).getD (.route 0) := by
  rw [screen, firstVerdict_vector_eq_none (hit := fun _ w => t1Active w && t1Match w p f) misses]
  cases firstVerdict (fun k w => t2Active w && t2Match x c.nEth c.nCmp tests k w p f) t2Verdict 0
    (x.t2.toList.take c.nT2) <;> rfl

end Screen

/-- A QUEUE field that names one of the device's queues is taken as it is, another is the draw (R440). -/
theorem targetQueue_route (n v : Nat) (draw : Option Nat) (queues : n ≤ 4) :
    (v < n → (targetQueue n draw (.route v)).map Fin.val = some v)
      ∧ (n ≤ v → targetQueue n draw (.route v) = draw.map (Fin.ofNat 4)) := by
  refine ⟨fun named => ?_, fun beyond => if_neg (by omega)⟩
  rw [targetQueue, if_pos named, Option.map_some, Fin.val_ofNat, Nat.mod_eq_of_lt (by omega)]

/-- Settles O55: the screeners are two searches, the second begun where the first finds nothing. -/
theorem screenersInOrder : Obligations.ScreenersInOrder := by
  intro c x tests p f hit1 hit2
  have miss1 (n : Fin 16) : ¬ hit1 n → (t1Active x.t1[n] && t1Match x.t1[n] p f) = false :=
    fun no => Bool.eq_false_iff.mpr fun both => no (Bool.and_eq_true_iff.mp both)
  have miss2 (n : Fin 16) : ¬ hit2 n → (t2Active x.t2[n] && t2Match x c.nEth c.nCmp tests n x.t2[n] p f) = false :=
    fun no => Bool.eq_false_iff.mpr fun both => no (Bool.and_eq_true_iff.mp both)
  refine ⟨fun n small hits misses => ?_, fun n small none1 hits misses => ?_, fun none1 none2 => ?_,
    fun n v draw queues => ⟨(targetQueue_route n v draw queues).1, (targetQueue_route n v draw queues).2, rfl⟩⟩
  · exact screen_of_t1 small (Bool.and_eq_true_iff.mpr hits) fun k before => miss1 k (misses k before)
  · rw [screen_of_not_t1 fun k inside => miss1 k (none1 k inside), firstVerdict_vector_eq_some small
      (hit := fun k w => t2Active w && t2Match x c.nEth c.nCmp tests k w p f) (Bool.and_eq_true_iff.mpr hits)
      fun k before => miss2 k (misses k before)]
    rfl
  · rw [screen_of_not_t1 fun k inside => miss1 k (none1 k inside), firstVerdict_vector_eq_none
      (hit := fun k w => t2Active w && t2Match x c.nEth c.nCmp tests k w p f) fun k inside => miss2 k (none2 k inside)]
    rfl

end Sys2Proof.Machine
end

section
/-! PROOF. Address recognition (43_classifier R410-R413): the bits of the hash, the bytes a specific-address filter
compares, and when a frame is accepted. -/

namespace Sys2Proof.Machine

/-! ### The hash (R410) -/

theorem foldWindows_lt (v k : Nat) : foldWindows v k < 2 ^ 6 := by
  induction k generalizing v with
  | zero => exact Nat.two_pow_pos 6
  | succ k ih => exact Nat.xor_lt_two_pow (Nat.mod_lt v (Nat.two_pow_pos 6)) (ih (v / 64))

/-- The first window gives the bit itself, the others the bits of the number above it. -/
theorem testBit_foldWindows_succ {i : Nat} (low : i < 6) (v k : Nat) :
    (foldWindows v (k + 1)).testBit i = (v.testBit i ^^ (foldWindows (v / 2 ^ 6) k).testBit i) := by
  rw [foldWindows, Nat.testBit_xor, show 64 = 2 ^ 6 from rfl, Nat.testBit_mod_two_pow, decide_eq_true low,
    Bool.true_and]

theorem testBit_foldWindows {i : Nat} (low : i < 6) (v : Nat) : (foldWindows v 8).testBit i =
    (v.testBit i ^^ v.testBit (i + 6) ^^ v.testBit (i + 12) ^^ v.testBit (i + 18) ^^ v.testBit (i + 24)
      ^^ v.testBit (i + 30) ^^ v.testBit (i + 36) ^^ v.testBit (i + 42)) := by
  have last (u : Nat) : (foldWindows u 0).testBit i = false := Nat.zero_testBit i
  simp only [testBit_foldWindows_succ low, last, Nat.testBit_div_two_pow, Bool.xor_false, Nat.add_assoc, Nat.reduceAdd,
    Bool.xor_assoc]

theorem addrBits_six (b0 b1 b2 b3 b4 b5 : Byte) : addrBits [b0, b1, b2, b3, b4, b5] =
    b0.toNat + 2 ^ 8 * b1.toNat + 2 ^ 16 * b2.toNat + 2 ^ 24 * b3.toNat + 2 ^ 32 * b4.toNat + 2 ^ 40 * b5.toNat := by
  simp only [addrBits]
  ring

theorem addrHash_take (f : List Byte) : addrHash f = addrHash (f.take 6) := by
  rw [addrHash, addrHash, List.take_take, Nat.min_self]

/-! ### Specific-address filters (R413) -/

/-- The bytes compared are those whose mask bit is 0. -/
theorem bytesMatch_iff {a b : List Byte} : ∀ {mask : Nat}, a.length ≤ b.length → (bytesMatch mask a b = true ↔
    ∀ i < a.length, mask.testBit i = true ∨ a.getD i 0 = b.getD i 0) := by
  induction a generalizing b with
  | nil => simp [bytesMatch]
  | cons u a ih =>
    intro mask fits
    match b, fits with
    | v :: b, fits =>
      rw [bytesMatch, Bool.and_eq_true, Bool.or_eq_true, decide_eq_true_iff, decide_eq_true_iff,
        ih (Nat.le_of_succ_le_succ fits), List.length_cons, Nat.forall_lt_succ_left]
      simp [Nat.testBit_zero, Nat.testBit_succ]

theorem testBit_field {w : Word} {lo len i : Nat} (inside : i < len) :
    (field w lo len).testBit i = w.getLsbD (lo + i) := by
  rw [field, BitVec.testBit_toNat, BitVec.getLsbD_extractLsb', decide_eq_true inside, Bool.true_and]

theorem getD_slice {f : List Byte} {i n j : Nat} (inside : j < n) : (slice f i n).getD j 0 = f.getD (i + j) 0 := by
  rw [List.getD_eq_getElem?_getD, getElem?_slice, if_pos inside, List.getD_eq_getElem?_getD]

theorem length_filterAddr (sab sat : Word) : (filterAddr sab sat).length = 6 := rfl

/-- A specific-address filter matches (R413). -/
theorem saMatch_iff (x : Device) {f : List Byte} (k : Fin 4) (long : 12 ≤ f.length) : saMatch x f k = true ↔
    filterAddr x.sab[k] x.sat[k] ≠ [0, 0, 0, 0, 0, 0]
      ∧ ∀ i < 6, (k ≠ 0 ∧ x.sat[k].getLsbD (24 + i) = true)
        ∨ (filterAddr x.sab[k] x.sat[k]).getD i 0
          = f.getD (if k ≠ 0 ∧ x.sat[k].getLsbD 16 = true then 6 + i else i) 0 := by
  have mask (i : Nat) (inside : i < 6) : (if k = 0 then 0 else field x.sat[k] 24 6).testBit i = true ↔
      k ≠ 0 ∧ x.sat[k].getLsbD (24 + i) = true := by
    split <;> simp [*, testBit_field inside]
  rw [saMatch]
  simp only [Bool.and_eq_true, decide_eq_true_iff]
  rw [← apply_ite (slice f · 6), bytesMatch_iff (by rw [length_slice (by split <;> omega), length_filterAddr]),
    length_filterAddr]
  refine and_congr Iff.rfl (forall₂_congr fun i inside => ?_)
  rw [mask i inside, getD_slice inside, apply_ite (· + i), Nat.zero_add]

/-! ### Acceptance (R411, R412) -/

/-- A search through four registers, the lowest number first. -/
theorem lowestOfFour_eq_find? (hit : Fin 4 → Bool) : (if hit 0 then some 0 else if hit 1 then some 1
    else if hit 2 then some 2 else if hit 3 then some 3 else none) = Fin.find? hit := by
  rw [Fin.find?_succ, Fin.find?_succ, Fin.find?_succ, Fin.find?_one]
  simp only [apply_ite (Option.map Fin.succ), Option.map_some, Option.map_none]
  rfl

theorem saHit_eq_find? (x : Device) (f : List Byte) : saHit x f = Fin.find? (saMatch x f) :=
  lowestOfFour_eq_find? (saMatch x f)

/-- The hash matches (R411). -/
theorem hashHit_iff (x : Device) (f : List Byte) : hashHit x f = true ↔
    (if addrHash f < 32 then x.hrb.getLsbD (addrHash f) else x.hrt.getLsbD (addrHash f - 32)) = true
      ∧ (if (f.getD 0 0).getLsbD 0 then x.ncfgr.getLsbD 6 else x.ncfgr.getLsbD 7) = true := by
  rw [hashHit, Bool.and_eq_true, hashBit, BitVec.getLsbD_append]
  rfl

theorem isBroadcast_iff {f : List Byte} (long : 6 ≤ f.length) :
    isBroadcast f = true ↔ ∀ i < 6, f.getD i 0 = 0xFF#8 := by
  have six : (f.take 6).length = 6 := List.length_take_of_le long
  rw [isBroadcast, decide_eq_true_iff, broadcastAddr, List.eq_replicate_iff, List.forall_mem_iff_getElem]
  simp only [six, true_and]
  refine forall₂_congr fun i inside => ?_
  rw [List.getElem_take, List.getD_eq_getElem _ _ (by omega)]

/-- A frame is accepted (R412). -/
theorem accepted_iff (x : Device) {f : List Byte} (long : 6 ≤ f.length) : accepted x f = true ↔
    x.ncfgr.getLsbD 4 = true ∨ (∃ k, saMatch x f k = true) ∨ hashHit x f = true
      ∨ ((∀ i < 6, f.getD i 0 = 0xFF#8) ∧ x.ncfgr.getLsbD 5 = false) := by
  rw [accepted, saHit_eq_find?, ← isBroadcast_iff long]
  simp only [Bool.or_eq_true, Bool.and_eq_true, Fin.isSome_find?_iff, Bool.not_eq_true', or_assoc, ncfgrCaf, ncfgrNbc]

/-- Settles O53: the hash bit by bit, and each match by what it compares. -/
theorem addressRecognition : Obligations.AddressRecognition := by
  refine ⟨⟨?_, by decide, by decide, by decide⟩, fun x f k => saMatch_iff x k, fun x f long =>
    ⟨hashHit_iff x f, accepted_iff x long, addrHash_take f⟩⟩
  intro b0 b1 b2 b3 b4 b5 v h
  refine ⟨foldWindows_lt _ 8, fun i low => ?_⟩
  have bits : h = foldWindows v 8 := congrArg (foldWindows · 8) (addrBits_six b0 b1 b2 b3 b4 b5)
  rw [bits, testBit_foldWindows low]

end Sys2Proof.Machine
end

section
/-! PROOF. What the parser and the recognisers find in a frame (43_classifier R400-R402, R412, R414; 44_tsu R470-R475):
tags and headers by their bytes, big-endian fields as lists of bytes, and the lowest register that matches. -/

namespace Sys2Proof.Machine

/-! ### Tags and ethertype (R400, R401) -/

section Tags

variable (depth tpid m : Nat) (f : List Byte)

theorem vlanTags_le_two : vlanTags depth tpid m f ≤ 2 := by
  unfold vlanTags
  split_ifs <;> omega

theorem one_le_vlanTags_iff : 1 ≤ vlanTags depth tpid m f ↔
    18 ≤ m ∧ ((depth = 2 ∧ be16 f 12 = tpid) ∨ (1 ≤ depth ∧ be16 f 12 = 0x8100)) := by
  unfold vlanTags
  split_ifs <;> omega

theorem vlanTags_eq_two_iff : vlanTags depth tpid m f = 2 ↔
    22 ≤ m ∧ (depth = 2 ∧ be16 f 12 = tpid) ∧ be16 f 16 = 0x8100 := by
  unfold vlanTags
  split_ifs
  · omega
  · omega
  · omega
  · rw [false_iff]
    omega
  · rw [false_iff]
    omega

end Tags

section Parse

variable (vlan : Word) (m : Nat) (f : List Byte)

theorem parseFrame_tags : (parseFrame vlan m f).tags = vlanTags (vlanDepth vlan) (vlanTpid vlan) m f := by
  unfold parseFrame
  simp only
  split <;> rfl

theorem parseFrame_tci : (parseFrame vlan m f).tci = be16 f 14 := by
  unfold parseFrame
  simp only
  split <;> rfl

theorem parseFrame_l3 : (parseFrame vlan m f).l3 = 14 + 4 * (parseFrame vlan m f).tags := by
  unfold parseFrame
  simp only
  split <;> exact Nat.add_right_comm 12 _ 2

theorem parseFrame_et : (parseFrame vlan m f).et = if (parseFrame vlan m f).l3 ≤ m
    then some (be16 f (12 + 4 * (parseFrame vlan m f).tags)) else none := by
  unfold parseFrame
  simp only
  split <;> rfl

/-- The fields of the first tag put together are its two bytes (R400). -/
theorem Parsed.tci_eq (p : Parsed) : p.tci = p.pcp * 2 ^ 13 + p.cfi * 2 ^ 12 + p.vid := by
  unfold Parsed.pcp Parsed.cfi Parsed.vid
  omega

theorem Parsed.cfi_lt (p : Parsed) : p.cfi < 2 := Nat.mod_lt _ (by decide)

theorem Parsed.vid_lt (p : Parsed) : p.vid < 2 ^ 12 := Nat.mod_lt _ (by decide)

/-! ### Network and transport headers (R402) -/

theorem parseFrame_net_eq_ipv4_iff (l4 : Nat) : (parseFrame vlan m f).net = .ipv4 l4 ↔
    let p := parseFrame vlan m f
    p.et = some 0x0800 ∧ p.l3 + 20 ≤ m ∧ byteAt f p.l3 / 16 = 4 ∧ 20 ≤ 4 * (byteAt f p.l3 % 16)
      ∧ p.l3 + 4 * (byteAt f p.l3 % 16) ≤ m ∧ l4 = p.l3 + 4 * (byteAt f p.l3 % 16) := by
  rw [parseFrame_net]
  cases h : (parseFrame vlan m f).et with
  | none => simp [h]
  | some et => simp [h, parseNet_eq_ipv4_iff]

theorem parseFrame_net_eq_ipv6_iff (l4 : Nat) : (parseFrame vlan m f).net = .ipv6 l4 ↔
    let p := parseFrame vlan m f
    p.et = some 0x86DD ∧ p.l3 + 40 ≤ m ∧ byteAt f p.l3 / 16 = 6 ∧ l4 = p.l3 + 40 := by
  rw [parseFrame_net]
  cases h : (parseFrame vlan m f).et with
  | none => simp [h]
  | some et => simp [h, parseNet_eq_ipv6_iff]

end Parse

section Transport

variable (p : Parsed) (f : List Byte)

/-- The frame carries protocol `n` from `l4` on: in IPv4 that is no later fragment, or as the next header of IPv6
(30_encoding R151, R152). -/
def Parsed.Carries (l4 n : Nat) : Prop :=
  (p.net = .ipv4 l4 ∧ p.fragOffset f = 0 ∧ byteAt f (p.l3 + 9) = n)
    ∨ (p.net = .ipv6 l4 ∧ byteAt f (p.l3 + 6) = n)

theorem transportAt_eq_udp_iff (proto l4 m : Nat) : transportAt proto l4 m = .udp ↔ proto = 17 ∧ l4 + 8 ≤ m := by
  unfold transportAt
  split_ifs <;> simp [*]

theorem transportAt_eq_tcp_iff (proto l4 m : Nat) : transportAt proto l4 m = .tcp ↔ proto = 6 ∧ l4 + 20 ≤ m := by
  unfold transportAt
  split_ifs <;> simp [*]

/-- The transport header is one that stands at `l4`, where the frame has a valid IP header and is no later fragment. -/
theorem Parsed.transport_eq_iff {t : Transport} {n size : Nat} (known : t ≠ .none)
    (place : ∀ proto l4, transportAt proto l4 p.len = t ↔ proto = n ∧ l4 + size ≤ p.len) :
    p.transport f = t ↔ ∃ l4, p.Carries f l4 n ∧ l4 + size ≤ p.len := by
  cases net : p.net with
  | other => simp [Parsed.transport, Parsed.Carries, net, known.symm]
  | ipv4 l4 =>
    by_cases first : p.fragOffset f = 0
    · simp [Parsed.transport, Parsed.Carries, Parsed.protocol, net, first, place]
    · simp [Parsed.transport, Parsed.Carries, net, first, known.symm]
  | ipv6 l4 => simp [Parsed.transport, Parsed.Carries, Parsed.protocol, net, place]

theorem Parsed.transport_eq_udp_iff : p.transport f = .udp ↔ ∃ l4, p.Carries f l4 17 ∧ l4 + 8 ≤ p.len :=
  p.transport_eq_iff f (by decide) fun proto l4 => transportAt_eq_udp_iff proto l4 p.len

theorem Parsed.transport_eq_tcp_iff : p.transport f = .tcp ↔ ∃ l4, p.Carries f l4 6 ∧ l4 + 20 ≤ p.len :=
  p.transport_eq_iff f (by decide) fun proto l4 => transportAt_eq_tcp_iff proto l4 p.len

theorem Parsed.l5_eq_some_iff (e : Nat) : p.l5 f = some e ↔ ∃ l4, p.l4 = some l4 ∧
    ((p.transport f = .udp ∧ e = l4 + 8) ∨ (p.transport f = .tcp ∧ e = l4 + 4 * (byteAt f (l4 + 12) / 16))) := by
  unfold Parsed.l5
  cases p.l4 <;> cases p.transport f <;> simp [eq_comm]

theorem Parsed.ds_eq_some_iff (v : Nat) : p.ds f = some v ↔ ∃ l4, (p.net = .ipv4 l4 ∧ v = byteAt f (p.l3 + 1))
    ∨ (p.net = .ipv6 l4 ∧ v = 16 * (byteAt f p.l3 % 16) + byteAt f (p.l3 + 1) / 16) := by
  rw [Nat.mul_comm 16]
  cases net : p.net <;> simp [Parsed.ds, net, eq_comm]

end Transport

/-! ### Addresses as lists of bytes (00_scope R12) -/

theorem beField_lt (f : List Byte) (i n : Nat) : beField f i n < 2 ^ (8 * n) := by
  induction n generalizing i with
  | zero => exact Nat.one_pos
  | succ n ih =>
    have byte : byteAt f i < 2 ^ 8 := BitVec.isLt _
    have rest := ih (i + 1)
    have wide : 2 ^ (8 * (n + 1)) = 2 ^ (8 * n) * 2 ^ 8 := pow_add 2 (8 * n) 8
    rw [beField, wide]
    linarith [Nat.mul_le_mul_left (2 ^ (8 * n)) (Nat.succ_le_of_lt byte)]

/-- The bytes at `i` are those of `v` exactly when the field at `i` is `v`. -/
theorem slice_eq_beBytes_iff {f : List Byte} {n : Nat} (v : Nat) : ∀ {i : Nat}, i + n ≤ f.length →
    (slice f i n = beBytes v n ↔ beField f i n = v % 2 ^ (8 * n)) := by
  induction n with
  | zero => simp [slice, beBytes, beField, Nat.mod_one]
  | succ n ih =>
    intro i fits
    have head : slice f i (n + 1) = f.getD i 0 :: slice f (i + 1) n := by
      rw [slice, List.drop_eq_getElem_cons (by omega), List.take_succ_cons, List.getD_eq_getElem _ _ (by omega), slice]
    have wide : 2 ^ (8 * (n + 1)) = 2 ^ (8 * n) * 2 ^ 8 := pow_add 2 (8 * n) 8
    have digits := Nat.div_mod_unique (a := v % 2 ^ (8 * (n + 1))) (c := beField f (i + 1) n) (d := byteAt f i)
      (Nat.two_pow_pos (8 * n))
    rw [wide, Nat.mod_mul_right_div_self, Nat.mod_mul_right_mod] at digits
    rw [head, beBytes, beField, List.cons.injEq, ih (by omega), wide, ← BitVec.toNat_inj, BitVec.toNat_ofNat,
      ← byteAt, Nat.add_comm (_ * _), Nat.mul_comm (byteAt f i), eq_comm (a := byteAt f i),
      eq_comm (a := beField f (i + 1) n), digits]
    exact and_iff_left (beField_lt f (i + 1) n)

theorem be32_eq_beField (f : List Byte) (i : Nat) : be32 f i = beField f i 4 := by
  simp only [be32, be16, beField]
  ring_nf

/-- Four bytes written out are those of a number. -/
theorem slice_eq_iff_be32 {f : List Byte} {i v : Nat} {l : List Byte} (fits : i + 4 ≤ f.length) (small : v < 2 ^ 32)
    (bytes : beBytes v 4 = l) : slice f i 4 = l ↔ be32 f i = v := by
  rw [← bytes, slice_eq_beBytes_iff v fits, Nat.mod_eq_of_lt small, be32_eq_beField]

/-- The IPv6 group addresses FF0x::181 (44_tsu R473). -/
theorem ptpGroup_iff {f : List Byte} {i : Nat} (fits : i + 16 ≤ f.length) :
    (beField f i 16 / 2 ^ 116 = 0xFF0 ∧ beField f i 16 % 2 ^ 112 = 0x181) ↔
      ∃ x : Byte, x.toNat < 16 ∧ slice f i 16 = 0xFF :: x :: .replicate 12 0 ++ [0x01, 0x81] := by
  have bytes : ∀ k : Fin 16, beBytes (0xFF0 * 2 ^ 116 + k * 2 ^ 112 + 0x181) 16 =
      0xFF :: BitVec.ofNat 8 k :: List.replicate 12 0 ++ [0x01, 0x81] := by decide
  have group (k : Fin 16) : slice f i 16 = 0xFF :: BitVec.ofNat 8 k :: List.replicate 12 0 ++ [0x01, 0x81] ↔
      beField f i 16 = 0xFF0 * 2 ^ 116 + k * 2 ^ 112 + 0x181 := by
    rw [← bytes k, slice_eq_beBytes_iff _ fits, Nat.mod_eq_of_lt (by omega)]
  constructor
  · rintro ⟨high, low⟩
    refine ⟨BitVec.ofNat 8 (beField f i 16 / 2 ^ 112 % 16), ?_,
      (group ⟨beField f i 16 / 2 ^ 112 % 16, by omega⟩).mpr ?_⟩
    · rw [BitVec.toNat_ofNat]
      omega
    · show _ = 0xFF0 * 2 ^ 116 + beField f i 16 / 2 ^ 112 % 16 * 2 ^ 112 + 0x181
      omega
  · rintro ⟨x, scope, same⟩
    have value := (group ⟨x.toNat, scope⟩).mp (by rwa [BitVec.ofNat_toNat, BitVec.setWidth_eq])
    simp only at value
    omega

/-- The IPv6 address FF02::6B (44_tsu R473). -/
theorem ptpPeer_iff {f : List Byte} {i : Nat} (fits : i + 16 ≤ f.length) :
    beField f i 16 = 0xFF02 * 2 ^ 112 + 0x6B ↔ slice f i 16 = 0xFF :: 0x02 :: .replicate 13 0 ++ [0x6B] := by
  have bytes : beBytes (0xFF02 * 2 ^ 112 + 0x6B) 16 = 0xFF :: 0x02 :: .replicate 13 0 ++ [0x6B] := by decide
  rw [← bytes, slice_eq_beBytes_iff _ fits, Nat.mod_eq_of_lt (by decide)]

/-! ### PTP frames (R470-R475) -/

section Ptp

variable {p : Parsed} {f : List Byte} {unicast : Option Word}

/-- An IPv4 destination of PTP: a group address, or the direction's unicast address (R472, R475). -/
def ptpIpv4 (p : Parsed) (f : List Byte) (unicast : Option Word) : Prop :=
  slice f (p.l3 + 16) 4 = [224, 0, 1, 129] ∨ slice f (p.l3 + 16) 4 = [224, 0, 0, 107]
    ∨ ∃ u, unicast = some u ∧ be32 f (p.l3 + 16) = u.toNat

/-- An IPv6 destination of PTP (R473). -/
def ptpIpv6 (p : Parsed) (f : List Byte) : Prop :=
  (∃ x : Byte, x.toNat < 16 ∧ slice f (p.l3 + 24) 16 = 0xFF :: x :: .replicate 12 0 ++ [0x01, 0x81])
    ∨ slice f (p.l3 + 24) 16 = 0xFF :: 0x02 :: .replicate 13 0 ++ [0x6B]

/-- How a message that starts at `start` is carried (R471-R473). -/
def ptpCarried (p : Parsed) (f : List Byte) (unicast : Option Word) (start : Nat) (via : PtpVia) : Prop :=
  (p.et = some 0x88F7 ∧ start = p.l3 ∧ via = .ethernet)
    ∨ ∃ l4, p.transport f = .udp ∧ (be16 f (l4 + 2) = 319 ∨ be16 f (l4 + 2) = 320) ∧ start = l4 + 8
      ∧ ((p.net = .ipv4 l4 ∧ via = .ipv4 l4 ∧ ptpIpv4 p f unicast)
        ∨ (p.net = .ipv6 l4 ∧ via = .ipv6 ∧ ptpIpv6 p f))

theorem ptpIpv4_iff (fits : p.l3 + 20 ≤ f.length) : ptpIpv4 p f unicast ↔ be32 f (p.l3 + 16) = 0xE0000181
    ∨ be32 f (p.l3 + 16) = 0xE000006B ∨ ∃ u, unicast = some u ∧ be32 f (p.l3 + 16) = u.toNat := by
  rw [ptpIpv4, slice_eq_iff_be32 (l := [224, 0, 1, 129]) (v := 0xE0000181) fits (by decide) rfl,
    slice_eq_iff_be32 (l := [224, 0, 0, 107]) (v := 0xE000006B) fits (by decide) rfl]

theorem ptpIpv6_iff (fits : p.l3 + 40 ≤ f.length) : ptpIpv6 p f ↔
    (beField f (p.l3 + 24) 16 / 2 ^ 116 = 0xFF0 ∧ beField f (p.l3 + 24) 16 % 2 ^ 112 = 0x181)
      ∨ beField f (p.l3 + 24) 16 = 0xFF02 * 2 ^ 112 + 0x6B := by
  rw [ptpIpv6, ptpGroup_iff fits, ptpPeer_iff fits]

section Carrier

variable {l4 start : Nat} {via : PtpVia}

theorem ptpCarrier_of_not_udp (udp : p.transport f ≠ .udp) :
    ptpCarrier p f unicast = some (start, via) ↔ ptpCarried p f unicast start via := by
  rw [ptpCarrier, if_neg udp, eq_comm]
  simp [ptpCarried, udp]

theorem ptpCarrier_of_ipv4 (et : p.et = some 0x0800) (udp : p.transport f = .udp) (net : p.net = .ipv4 l4)
    (fits : p.l3 + 20 ≤ f.length) :
    ptpCarrier p f unicast = some (start, via) ↔ ptpCarried p f unicast start via := by
  have carried : ptpCarried p f unicast start via ↔ ((be16 f (l4 + 2) = 319 ∨ be16 f (l4 + 2) = 320)
      ∧ ptpIpv4 p f unicast) ∧ l4 + 8 = start ∧ .ipv4 l4 = via := by
    simp [ptpCarried, et, udp, net, eq_comm (a := start), eq_comm (a := via)]
    tauto
  rw [carried, ptpIpv4_iff fits, ptpCarrier, if_neg (by rw [et]; decide), if_pos udp, net]
  simp only [Option.ite_none_right_eq_some, Option.some_inj, Prod.mk.injEq]
  cases unicast <;> simp

theorem ptpCarrier_of_ipv6 (et : p.et = some 0x86DD) (udp : p.transport f = .udp) (net : p.net = .ipv6 l4)
    (fits : p.l3 + 40 ≤ f.length) :
    ptpCarrier p f unicast = some (start, via) ↔ ptpCarried p f unicast start via := by
  have carried : ptpCarried p f unicast start via ↔ ((be16 f (l4 + 2) = 319 ∨ be16 f (l4 + 2) = 320)
      ∧ ptpIpv6 p f) ∧ l4 + 8 = start ∧ .ipv6 = via := by
    simp [ptpCarried, et, udp, net, eq_comm (a := start), eq_comm (a := via)]
    tauto
  rw [carried, ptpIpv6_iff fits, ptpCarrier, if_neg (by rw [et]; decide), if_pos udp, net]
  simp only [Option.ite_none_right_eq_some, Option.some_inj, Prod.mk.injEq, Bool.or_eq_true, decide_eq_true_iff]

/-- The frame is PTP, over Ethernet or over UDP: the ethertype of an IP frame is not that of PTP (R471-R473). -/
theorem ptpCarrier_eq_some_iff {vlan : Word} {m : Nat} (long : m ≤ f.length)
    (parsed : p = parseFrame vlan m f) :
    ptpCarrier p f unicast = some (start, via) ↔ ptpCarried p f unicast start via := by
  have ipv4 := parseFrame_net_eq_ipv4_iff vlan m f
  have ipv6 := parseFrame_net_eq_ipv6_iff vlan m f
  rw [← parsed] at ipv4 ipv6
  by_cases udp : p.transport f = .udp
  · obtain ⟨l4, ⟨net, -⟩ | ⟨net, -⟩, -⟩ := (p.transport_eq_udp_iff f).mp udp
    · obtain ⟨et, room, -⟩ := (ipv4 l4).mp net
      exact ptpCarrier_of_ipv4 et udp net (room.trans long)
    · obtain ⟨et, room, -⟩ := (ipv6 l4).mp net
      exact ptpCarrier_of_ipv6 et udp net (room.trans long)
  · exact ptpCarrier_of_not_udp udp

end Carrier

/-- The PTP message of a frame is the carried one that starts inside the frame (R474). -/
theorem ptpMessage_eq_some_iff (e : PtpMsg) : ptpMessage p f unicast = some e ↔
    e.start + 1 ≤ p.len ∧ e.kind = byteAt f e.start % 16 ∧ ptpCarrier p f unicast = some (e.start, e.via) := by
  obtain ⟨start, kind, via⟩ := e
  unfold ptpMessage
  cases ptpCarrier p f unicast with
  | none => simp
  | some c =>
    obtain ⟨start', via'⟩ := c
    simp only [Option.ite_none_right_eq_some, Option.some_inj, PtpMsg.mk.injEq, Prod.mk.injEq]
    constructor
    · rintro ⟨inside, rfl, rfl, rfl⟩
      exact ⟨inside, rfl, rfl, rfl⟩
    · rintro ⟨inside, rfl, rfl, rfl⟩
      exact ⟨inside, rfl, rfl, rfl⟩

/-- The type of an event message (R474). -/
theorem eventKind_eq (g : Option PtpMsg) : eventKind g = g.bind fun e => if e.kind < 4 then some e.kind else none := by
  cases g with
  | none => rfl
  | some e => simp [eventKind, PtpMsg.isEvent]

end Ptp

/-! ### The lowest register that matches (R412, R414), and a frame that leaves (R470) -/

theorem tidmHit_eq_find? (x : Device) (p : Parsed) : tidmHit x p = Fin.find? (tidmMatch x p) :=
  lowestOfFour_eq_find? (tidmMatch x p)

theorem tidmMatch_iff (x : Device) (p : Parsed) (k : Fin 4) : tidmMatch x p k = true ↔
    x.tidm[k].getLsbD 31 = true ∧ p.et = some (field x.tidm[k] 0 16) := by
  rw [tidmMatch, Bool.and_eq_true, decide_eq_true_iff]

/-- A transmitted frame is looked at after checksum offload, and before one-step sync, padding and FCS (44_tsu R470). -/
theorem txImage_ptp (x : Device) (fr : TxFrame) :
    let f := if fr.nocrc = false ∧ dmacfgTxcoen fr.conf.dmacfg = true then
      (checksumOffload fr.conf.stackedVlan fr.data).1 else fr.data
    (txImage x fr).ptp = ptpMessage (parseFrame fr.conf.stackedVlan f.length f) f
      (if ncrPtpUcEn fr.conf.ncr then some fr.conf.txPtpUnicast else none) := by
  unfold txImage
  cases fr.nocrc <;> cases dmacfgTxcoen fr.conf.dmacfg <;> rfl

/-- Settles O52: the parse by the bytes it reads, then PTP over what the parse gives. -/
theorem frameRecognition : Obligations.FrameRecognition := by
  refine ⟨fun vlan m f long => ?_, eventKind_eq, txImage_ptp, fun x k => ⟨fun p => ?_, fun f => ?_⟩⟩
  · intro p depth outer ihl proto
    have len : p.len = m := parseFrame_len vlan m f
    have tags : p.tags = vlanTags depth (field vlan 0 16) m f := parseFrame_tags vlan m f
    have tci : be16 f 14 = p.tci := (parseFrame_tci vlan m f).symm
    refine ⟨⟨len, ?_, ?_, ?_, tci.trans p.tci_eq, p.cfi_lt, p.vid_lt⟩,
      ⟨parseFrame_l3 vlan m f, parseFrame_et vlan m f⟩,
      fun l4 => ⟨parseFrame_net_eq_ipv4_iff vlan m f l4, parseFrame_net_eq_ipv6_iff vlan m f l4,
        Parsed.l4_eq_some_iff⟩, ?_, ?_, p.l5_eq_some_iff f, p.ds_eq_some_iff f, fun unicast e => ?_⟩
    · exact tags ▸ vlanTags_le_two depth _ m f
    · exact tags ▸ one_le_vlanTags_iff depth _ m f
    · exact tags ▸ vlanTags_eq_two_iff depth _ m f
    · exact len ▸ p.transport_eq_udp_iff f
    · exact len ▸ p.transport_eq_tcp_iff f
    · have message := ptpMessage_eq_some_iff (p := p) (f := f) (unicast := unicast) e
      rw [ptpCarrier_eq_some_iff long rfl, len] at message
      exact message
  · rw [tidmHit_eq_find?, Fin.find?_eq_some_iff]
    simp only [← Bool.not_eq_true, tidmMatch_iff]
  · rw [saHit_eq_find?, Fin.find?_eq_some_iff]

end Sys2Proof.Machine
end

section
/-! PROOF. The tick of the time stamp unit (44_tsu R460-R463): the sub-nanosecond sum carries at most one, and the
nanoseconds stay below the threshold where they roll over; every other update of a device leaves them or checks them. -/

namespace Sys2Proof.Machine

/-! ### The tick -/

/-- The sub-nanosecond sum of a tick (R462). -/
def Tsu.accSum (t : Tsu) : Nat := t.acc.toNat + field t.subInc 0 24

/-- The nanosecond sum of a tick, with the carry of the sub-nanoseconds (R462). -/
def Tsu.nsSum (t : Tsu) : Nat := t.ns.toNat + field t.inc 0 8 + t.accSum / 2 ^ 24

theorem Tsu.carry_le_one (t : Tsu) : t.accSum / 2 ^ 24 ≤ 1 := by
  have acc := t.acc.isLt
  have sub := field_lt t.subInc 0 24
  unfold Tsu.accSum
  omega

/-- A tick moves the nanoseconds by 256 at most. -/
theorem Tsu.nsSum_le (t : Tsu) : t.nsSum ≤ t.ns.toNat + 256 := by
  have inc := field_lt t.inc 0 8
  have carry := t.carry_le_one
  unfold Tsu.nsSum
  omega

theorem Device.tsuTick_of_lt {x : Device} {rollover : Nat} (h : x.tsu.nsSum < rollover) : x.tsuTick rollover =
    { x with tsu := { x.tsu with acc := BitVec.ofNat 24 x.tsu.accSum, ns := BitVec.ofNat 30 x.tsu.nsSum } } := by
  have tick : x.tsu.tick rollover =
      ({ x.tsu with acc := BitVec.ofNat 24 x.tsu.accSum, ns := BitVec.ofNat 30 x.tsu.nsSum }, false) :=
    if_neg (Nat.not_le.mpr h)
  rw [Device.tsuTick, tick]
  rfl

theorem Device.tsuTick_of_le {x : Device} {rollover : Nat} (h : rollover ≤ x.tsu.nsSum) : x.tsuTick rollover =
    { x with tsu := { x.tsu with
        acc := BitVec.ofNat 24 x.tsu.accSum, ns := BitVec.ofNat 30 (x.tsu.nsSum - rollover), sec := x.tsu.sec + 1 }
      }.irq 0 0x04000000#32 := by
  have tick : x.tsu.tick rollover =
      ({ x.tsu with
        acc := BitVec.ofNat 24 x.tsu.accSum, ns := BitVec.ofNat 30 (x.tsu.nsSum - rollover), sec := x.tsu.sec + 1 },
        true) := if_pos h
  rw [Device.tsuTick, tick]
  rfl

theorem runInput_tsuTick {d : Dev} {s : State} {y : Device} (h : (s.dev d).tsuTick s.cfg.nsRollover = y) :
    runInput (.tsuTick d) s = .next (s.setDev d y) := h ▸ rfl

/-- Settles O27: the two branches of a tick, whose nanoseconds fit the 30 bits of NS. -/
theorem tsuTickResult : Obligations.TsuTickResult := by
  intro d s large fits inRange x t n
  have sum := x.tsu.nsSum_le
  change x.tsu.ns.toNat < _ at inRange
  rcases Nat.lt_or_ge n s.cfg.nsRollover with low | high
  · refine ⟨BitVec.ofNat 30 n, fun _ => ⟨?_, ?_⟩, fun h => absurd low (Nat.not_lt.mpr h)⟩
    · rw [BitVec.toNat_ofNat, Nat.mod_eq_of_lt (by omega)]
    · exact runInput_tsuTick (Device.tsuTick_of_lt low)
  · refine ⟨BitVec.ofNat 30 (n - s.cfg.nsRollover), fun h => absurd high (Nat.not_le.mpr h), fun _ => ⟨?_, ?_⟩⟩
    · have small : n ≤ x.tsu.ns.toNat + 256 := sum
      rw [BitVec.toNat_ofNat, Nat.mod_eq_of_lt (by omega)]
    · exact runInput_tsuTick (Device.tsuTick_of_le high)

/-! ### The nanoseconds stay below the threshold -/

@[simp] theorem Device.tsu_writeNcr (x : Device) (v : Word) : (x.writeNcr v).tsu = x.tsu := by
  rw [Device.writeNcr_rest]
  cases ncrClrStat v <;> rfl

@[simp] theorem Device.tsu_ptpRxEvent (x : Device) (k : Nat) : (x.ptpRxEvent k).tsu = x.tsu := by
  rw [Device.ptpRxEvent_eq]
  rfl

@[simp] theorem Device.tsu_ptpTxEvent (x : Device) (k : Nat) : (x.ptpTxEvent k).tsu = x.tsu := by
  rw [Device.ptpTxEvent_eq]
  rfl

@[simp] theorem Device.tsu_txHaltCheck (x : Device) : x.txHaltCheck.tsu = x.tsu := by
  rw [Device.txHaltCheck_eq]

/-- A tick keeps the nanoseconds below a threshold that it cannot pass twice (R8, R463). -/
theorem Device.ns_tsuTick_lt {x : Device} {rollover : Nat} (large : 511 < rollover)
    (h : x.tsu.ns.toNat < rollover) : (x.tsuTick rollover).tsu.ns.toNat < rollover := by
  have sum := x.tsu.nsSum_le
  rcases Nat.lt_or_ge x.tsu.nsSum rollover with low | high
  · rw [Device.tsuTick_of_lt low]
    exact (Nat.mod_le _ _).trans_lt low
  · rw [Device.tsuTick_of_le high]
    exact (Nat.mod_le _ _).trans_lt (show x.tsu.nsSum - rollover < rollover by omega)

/-- Every update of a device keeps the nanoseconds below the threshold: reset clears them, a write is checked, a tick
rolls over, and the rest leaves them. -/
theorem Device.Update.ns_lt {c : Params} {d : Dev} {x y : Device} (u : Device.Update c d x y)
    (large : 511 < c.nsRollover) (h : x.tsu.ns.toNat < c.nsRollover) : y.tsu.ns.toNat < c.nsRollover := by
  induction u with
  | trans _ _ first second => exact second (first h)
  | reset => exact (Nat.zero_le 511).trans_lt large
  | tsuNsec x v _ below => exact below
  | tick x => exact Device.ns_tsuTick_lt large h
  | ncr x v => rwa [Device.tsu_writeNcr]
  | ptpRx x k => rwa [Device.tsu_ptpRxEvent]
  | ptpTx x k => rwa [Device.tsu_ptpTxEvent]
  | txFinish x q => rwa [Device.tsu_txHaltCheck]
  | _ => exact h

theorem Params.ok.nsRollover {c : Params} (h : c.ok = true) : 511 < c.nsRollover := by
  simp only [Params.ok, Bool.and_eq_true, decide_eq_true_iff] at h
  obtain ⟨⟨⟨⟨⟨-, large⟩, -⟩, -⟩, -⟩, -⟩ := h
  exact large

/-- Settles O10: each device goes through updates that keep the bound, and a write is checked against it. -/
theorem stepKeepsNanoseconds : Obligations.StepKeepsNanoseconds := by
  refine ⟨fun s t h inRange d => ?_, fun d v s legal high => ?_⟩
  · obtain ⟨ok, change⟩ := step_change h
    rw [change.cfg]
    exact (change.dev d).ns_lt (Params.ok.nsRollover ok) (inRange d)
  · exact (if_neg (not_not_intro legal)).trans (if_pos high)

end Sys2Proof.Machine
end

section
/-! PROOF. Which PTP events a frame records (44_tsu R480, R482): nothing of the receive path after the checks, and nothing of
the transmit path beside the event itself, reaches the event registers, their interrupt bits or the time stamp unit. -/

namespace Sys2Proof.Machine

/-! ### Event registers and their interrupt bits -/

/-- `y` has the time stamp unit, the event registers and the interrupt bits of events (R482) of `x`. -/
structure Device.KeepsEvents (x y : Device) : Prop where
  tsu : y.tsu = x.tsu
  ptp : y.ptp = x.ptp
  isr : (y.queue 0).isr &&& 0x03FC0000#32 = (x.queue 0).isr &&& 0x03FC0000#32

namespace Device.KeepsEvents

variable {x y : Device}

theorem refl (x : Device) : x.KeepsEvents x := ⟨rfl, rfl, rfl⟩

theorem countAll (x : Device) (l : List Stat) : x.KeepsEvents (x.countAll l) :=
  ⟨by simp, by simp, by simp⟩

/-- An end of a frame that raises none of the bits of events. -/
theorem rxEnded (h : x.KeepsEvents y) (t : Fin 4) (a : Word) {e : RxEnd} (other : e.isr &&& 0x03FC0000#32 = 0) :
    x.KeepsEvents (y.rxEnded t a e) where
  tsu := by simpa [Device.rxEnded, Device.setRxCur, Device.irq, Device.setRsr, Device.modQueue] using h.tsu
  ptp := by simpa [Device.rxEnded, Device.setRxCur, Device.irq, Device.setRsr, Device.modQueue] using h.ptp
  isr := by
    rw [Device.queue_rxEnded, BitVec.and_or_distrib_right, h.isr]
    split <;> simp [other]

theorem rxResourceError (h : x.KeepsEvents y) (t : Fin 4) : x.KeepsEvents (y.rxResourceError t) := by
  rw [← Device.rxEnded_resourceError]
  exact h.rxEnded t _ (by decide)

theorem rxBusError_moved (h : x.KeepsEvents y) (t : Fin 4) (a : Word) :
    x.KeepsEvents ((y.setRxCur t a).rxBusError t) := by
  rw [← Device.rxEnded_busError]
  exact h.rxEnded t a (by decide)

theorem rxBusError (h : x.KeepsEvents y) (t : Fin 4) : x.KeepsEvents (y.rxBusError t) := by
  have moved := h.rxBusError_moved t (y.queue t).rxCur
  rwa [Device.setRxCur_self] at moved

theorem rxDone (h : x.KeepsEvents y) (t : Fin 4) (a : Word) (f : List Byte) :
    x.KeepsEvents ((y.setRxCur t a).rxDone t f) := by
  rw [← Device.rxEnded_stored]
  exact h.rxEnded t a (show 2#32 &&& 0x03FC0000#32 = 0 by decide)

theorem rxOverrun (x : Device) : x.KeepsEvents x.rxOverrun where
  tsu := rfl
  ptp := rfl
  isr := by
    have bit : (x.rxOverrun.queue 0).isr = (x.queue 0).isr ||| isrRovr := by
      simp [Device.rxOverrun, Device.irqDevice, Device.irq]
    rw [bit, BitVec.and_or_distrib_right, show isrRovr &&& 0x03FC0000#32 = 0 by decide]
    exact BitVec.or_zero

end Device.KeepsEvents

/-! ### Reception -/

/-- A received frame passes the receive checks of its device (42_rx_ring R370, R371; 43_classifier R408). -/
def rxPasses (x : Device) (f : List Byte) (dr : RxDraws) : Bool :=
  ncrRe x.ncr && !dr.overrun
    && (rxChecks x.ncfgr x.jml (parseFrame x.stackedVlan (f.length - 4) f) f.length (fcsOk dr.runtFcs f)).2

/-- The event type a received frame is recorded with (44_tsu R482). -/
def rxEventKind (x : Device) (f : List Byte) (dr : RxDraws) : Option Nat :=
  if rxPasses x f dr then eventKind (rxMessage x f) else none

/-- The device once a received frame is recorded, as far as its events go. -/
def Device.rxRecorded (x : Device) (f : List Byte) (dr : RxDraws) : Device :=
  if rxPasses x f dr then x.rxNoted f (fcsOk dr.runtFcs f) else x

/-- A recorded frame sets the registers and the bit of its type (R482). -/
theorem Device.rxRecorded_spec (x : Device) (f : List Byte) (dr : RxDraws) :
    let y := x.rxRecorded f dr
    y.tsu = x.tsu ∧ y.ptp = rxEventRegs x (rxEventKind x f dr)
      ∧ (y.queue 0).isr = (x.queue 0).isr ||| rxEventBit (rxEventKind x f dr) := by
  unfold Device.rxRecorded rxEventKind
  cases rxPasses x f dr with
  | false => exact ⟨rfl, rfl, BitVec.or_zero.symm⟩
  | true =>
    simp only [if_true]
    rw [Device.rxNoted_eq]
    exact ⟨rfl, rfl, congrArg Queue.isr (Device.queue_modQueue_self _ 0 _)⟩

/-- The next state of a result, if there is one, keeps the events of `x` in device `d`, and the other devices. -/
def RecordsOnly (d : Dev) (x : Device) (s : State) (r : Result) : Prop :=
  ∀ t, r = .next t → x.KeepsEvents (t.dev d) ∧ ∀ e, e ≠ d → t.dev e = s.dev e

namespace RecordsOnly

variable {d : Dev} {x y : Device} {s : State}

theorem fault (r : Fault) : RecordsOnly d x s (.fault r) := by intro t e; cases e

theorem withDma (h : x.KeepsEvents y) (m : Memory) : RecordsOnly d x s (.next (s.withDma d m y)) := by
  rintro t ⟨⟩
  refine ⟨?_, fun e other => ?_⟩
  · rwa [State.withDma_dev, if_pos rfl]
  · rw [State.withDma_dev, if_neg other]

theorem setDev (h : x.KeepsEvents y) : RecordsOnly d x s (.next (s.setDev d y)) := by
  rintro t ⟨⟩
  exact ⟨(s.dev_setDev_self d y).symm ▸ h, fun e other => s.dev_setDev_of_ne d e y other⟩

theorem ite {p : Prop} [Decidable p] {a b : Result} (h : RecordsOnly d x s a) (k : RecordsOnly d x s b) :
    RecordsOnly d x s (if p then a else b) := by
  split
  · exact h
  · exact k

end RecordsOnly

theorem rxStore_recordsOnly (d : Dev) (t : Fin 4) (p : Parsed) (g : Option PtpMsg) (badfcs : Bool) (errs : List Nat)
    (f : List Byte) (x : Device) (s : State) : RecordsOnly d x s (rxStore d t p g badfcs errs f x s) := by
  have same := Device.KeepsEvents.refl x
  unfold rxStore
  simp only
  refine .ite (.fault _) ?_
  split
  · exact .fault _
  · exact .withDma (same.rxResourceError t) _
  · exact .withDma (same.rxBusError t) _
  · exact .ite (.ite (.fault _) (.withDma (same.rxBusError t) _)) (.ite (.withDma (same.rxDone t _ f) _)
      (.ite (.withDma (same.rxBusError t) _) (.withDma (same.rxBusError_moved t _) _)))

/-- Behind the checks, whatever becomes of a received frame, only its event is recorded. -/
theorem rxDevice_recordsOnly (d : Dev) (f : List Byte) (dr : RxDraws) (s : State) :
    RecordsOnly d ((s.dev d).rxRecorded f dr) s (rxDevice d f dr s) := by
  have unrecorded (h : rxPasses (s.dev d) f dr = false) : (s.dev d).rxRecorded f dr = s.dev d := by
    rw [Device.rxRecorded, h, if_neg Bool.false_ne_true]
  cases enabled : ncrRe (s.dev d).ncr with
  | false =>
    rw [rxDevice_disabled f dr enabled, unrecorded (by simp [rxPasses, enabled])]
    rintro t ⟨⟩
    exact ⟨.refl _, fun _ _ => rfl⟩
  | true =>
  cases overrun : dr.overrun with
  | true =>
    rw [rxDevice_overrun enabled overrun, unrecorded (by simp [rxPasses, overrun])]
    exact .setDev (.rxOverrun _)
  | false =>
  cases checks : rxChecks (s.dev d).ncfgr (s.dev d).jml (parseFrame (s.dev d).stackedVlan (f.length - 4) f) f.length
      (fcsOk dr.runtFcs f) with
  | mk counters pass =>
  cases pass with
  | false =>
    rw [rxDevice_fails enabled overrun checks, unrecorded (by simp [rxPasses, checks])]
    exact .setDev (.countAll _ _)
  | true =>
  have pass := congrArg Prod.snd checks
  have recorded : (s.dev d).rxRecorded f dr = (s.dev d).rxNoted f (fcsOk dr.runtFcs f) := by
    rw [Device.rxRecorded, if_pos (by simp [rxPasses, enabled, overrun, pass])]
  rw [recorded]
  cases accepts : accepted (s.dev d) f with
  | false =>
    rw [rxDevice_dropped enabled overrun pass (.inl accepts)]
    exact .setDev (.refl _)
  | true =>
  cases routed : targetQueue (s.cfg.nQueues d) dr.route
      (screen s.cfg (s.dev d) dr.tests (parseFrame (s.dev d).stackedVlan (f.length - 4) f) f) with
  | none =>
    rw [rxDevice_dropped enabled overrun pass (.inr routed)]
    exact .setDev (.refl _)
  | some t =>
  have reaches : RxReaches s d f dr t := ⟨enabled, overrun, ⟨pass, accepts⟩, routed⟩
  by_cases receives : t = 0 ∨ ((s.dev d).queue t).rxQdis = false
  · rw [reaches.rxDevice_stored receives]
    exact rxStore_recordsOnly _ _ _ _ _ _ _ _ _
  · obtain ⟨notFirst, disabled⟩ := not_or.mp receives
    rw [reaches.rxDevice_disabledQueue notFirst (by simpa using disabled)]
    exact .setDev ((Device.KeepsEvents.refl _).rxResourceError t)

/-! ### Transmission -/

/-- The bits of an outcome and of the write-back are none of the bits of events. -/
theorem outcomeBits_and_events (o : TxOutcome) (complete : Bool) :
    ((outcomeBits o).2 ||| (if complete then 0x80#32 else 0x800#32)) &&& 0x03FC0000#32 = 0 := by
  cases complete <;> cases o <;> simp [outcomeBits]

/-- The step that ends a frame records the event of a delivered one (R482). -/
theorem Device.txEnded_events (x : Device) (q : Fin 4) (o : TxOutcome) (im : TxImage) (complete : Bool) :
    let y := x.txEnded q o im complete
    y.tsu = x.tsu ∧ y.ptp = txEventRegs x (txEventKind o im.ptp)
      ∧ (y.queue 0).isr &&& 0x03FC0000#32
        = ((x.queue 0).isr ||| txEventBit (txEventKind o im.ptp)) &&& 0x03FC0000#32 := by
  have spec := x.txEnded_spec q o im complete
  have rest : x.txEnded q o im complete = _ := spec.rest
  refine ⟨(congrArg Device.tsu rest).trans rfl, spec.ptp, ?_⟩
  have other : (if 0 = q then (outcomeBits o).2 ||| (if complete then 0x80#32 else 0x800#32) else 0)
      &&& 0x03FC0000#32 = 0#32 := by
    split
    · exact outcomeBits_and_events o complete
    · rfl
  rw [spec.queue 0]
  simp only [if_true, BitVec.and_or_distrib_right, other, BitVec.or_zero]

/-- The step that ends a frame, whatever becomes of the frame: its device is as at the step's end, or a looped back frame
is recorded there; the other devices stay. -/
theorem runTxDone_records {d : Dev} {q : Fin 4} {dr : TxDraws} {s t : State} {fr : TxFrame}
    (inflight : ((s.dev d).queue q).inflight = some fr)
    (draws : txDrawsInSet dr s d fr (txImage (s.dev d) fr).frame.length = true) (h : runTxDone d q dr s = .next t) :
    let o := txOutcome fr dr.outcome
    let im := txImage (s.dev d) fr
    (∀ e, e ≠ d → t.dev e = s.dev e) ∧ ∃ complete,
      let y := (s.dev d).txEnded q o im complete
      if outcomeIsOk o && ncrLbLocal fr.conf.ncr then (y.rxRecorded im.frame dr.loop).KeepsEvents (t.dev d)
      else t.dev d = y := by
  intro o im
  have sent (e : Dev) : (if outcomeIsOk o then transmit s d fr.conf dr.frags im.frame else s).dev e = s.dev e := by
    split
    · exact transmit_dev _ _ _ _ _ _
    · rfl
  rw [runTxDone_eq inflight draws] at h
  simp only at h
  generalize decide (_ = (txWrites (s.dev d) fr o).length) = complete at h
  split at h
  · cases h
  · split at h
    · next loops =>
      obtain ⟨recorded, others⟩ := rxDevice_recordsOnly _ _ _ _ _ h
      rw [State.withDma_dev, if_pos rfl] at recorded
      refine ⟨fun e other => ?_, complete, by rwa [if_pos loops]⟩
      rw [others e other, State.withDma_dev, if_neg other, sent]
    · next leaves =>
      cases h
      refine ⟨fun e other => ?_, complete, ?_⟩
      · rw [State.withDma_dev, if_neg other, sent]
      · rw [if_neg leaves, State.withDma_dev, if_pos rfl]

/-- A received event reaches none of the registers of transmitted ones. -/
theorem rxEventRegs_tx (x : Device) (k : Option Nat) :
    let p := rxEventRegs x k
    p.txSec = x.ptp.txSec ∧ p.txNsec = x.ptp.txNsec ∧ p.peerTxSec = x.ptp.peerTxSec
      ∧ p.peerTxNsec = x.ptp.peerTxNsec :=
  match k with
  | some 0 | some 1 | some 2 | some 3 | some (_ + 4) | none => ⟨rfl, rfl, rfl, rfl⟩

/-- A received event raises none of the bits of transmitted ones. -/
theorem rxEventBit_and_tx (k : Option Nat) : rxEventBit k &&& 0x03300000#32 = 0#32 :=
  match k with
  | some 0 | some 1 | some 2 | some 3 | none => rfl
  | some (_ + 4) => BitVec.zero_and

/-- The bits of transmitted events are among the bits of events. -/
theorem and_txEvents_congr {v w : Word} (h : v &&& 0x03FC0000#32 = w &&& 0x03FC0000#32) :
    v &&& 0x03300000#32 = w &&& 0x03300000#32 := by
  have mask : (0x03300000#32 : Word) = 0x03FC0000#32 &&& 0x03300000#32 := by decide
  rw [mask, ← BitVec.and_assoc, h, BitVec.and_assoc]

/-- Settles O41: the receive path records the frame behind the checks; the transmit path records it at the step's end,
and a looped back frame changes the receiver's registers and bits alone. -/
theorem ptpEventsRecorded : Obligations.PtpEventsRecorded := by
  refine ⟨fun d f dr s t h => ?_, fun d q dr s t fr inflight => ?_⟩
  · obtain ⟨kept, -⟩ := rxDevice_recordsOnly d f dr s t h
    obtain ⟨-, ptp, isr⟩ := (s.dev d).rxRecorded_spec f dr
    exact ⟨kept.ptp.trans ptp, kept.isr.trans (isr ▸ rfl)⟩
  · intro x im o kind draws h p r isr
    obtain ⟨-, complete, records⟩ := runTxDone_records inflight draws h
    obtain ⟨-, ptp, bits⟩ := x.txEnded_events q o im complete
    simp only at records
    split at records
    · next loops =>
      obtain ⟨ok, loop⟩ := Bool.and_eq_true_iff.mp loops
      obtain ⟨-, looped, loopedBits⟩ := (x.txEnded q o im complete).rxRecorded_spec im.frame dr.loop
      obtain ⟨txSec, txNsec, peerTxSec, peerTxNsec⟩ := rxEventRegs_tx (x.txEnded q o im complete)
        (rxEventKind (x.txEnded q o im complete) im.frame dr.loop)
      have final : p = _ := records.ptp.trans looped
      have finalBits : isr &&& 0x03300000#32 = _ := and_txEvents_congr records.isr
      rw [loopedBits, BitVec.and_or_distrib_right, rxEventBit_and_tx, BitVec.or_zero,
        and_txEvents_congr bits] at finalBits
      rw [← final, ptp] at txSec txNsec peerTxSec peerTxNsec
      refine ⟨txSec, txNsec, peerTxSec, peerTxNsec, finalBits, fun line => ?_⟩
      rcases line with off | failed
      · exact absurd (off.symm.trans loop) Bool.false_ne_true
      · exact absurd (failed.symm.trans ok) Bool.false_ne_true
    · have same : p = r := (congrArg Device.ptp records).trans ptp
      have sameBits : isr &&& 0x03FC0000#32 = _ :=
        (congrArg (fun y : Device => (y.queue 0).isr &&& 0x03FC0000#32) records).trans bits
      rw [same]
      exact ⟨rfl, rfl, rfl, rfl, and_txEvents_congr sameBits, fun _ => ⟨rfl, sameBits⟩⟩

end Sys2Proof.Machine
end

section
/-! PROOF. The value of the time stamp unit (44_tsu R464): every access but a write of the time, and every step but a tick,
leaves it; a tick adds the increment and at most one. -/

namespace Sys2Proof.Machine

/-! ### Steps that leave the time -/

/-- The time a TSU holds: its seconds and nanoseconds (R460). -/
def Tsu.time (t : Tsu) : BitVec 64 × BitVec 30 := (t.sec, t.ns)

/-- Device `d` has the same time in both states. -/
def SameTime (d : Dev) (s t : State) : Prop := (t.dev d).tsu.time = (s.dev d).tsu.time

/-- A step that leaves the time of device `d`. -/
def KeepsTime (d : Dev) (s : State) (r : Result) : Prop := ∀ t, r = .next t → SameTime d s t

theorem SameTime.of_dev {d : Dev} {s t : State} (h : t.dev d = s.dev d) : SameTime d s t :=
  congrArg (fun x : Device => x.tsu.time) h

theorem SameTime.of_tsu {d : Dev} {s t : State} (h : (t.dev d).tsu = (s.dev d).tsu) : SameTime d s t :=
  congrArg Tsu.time h

theorem SameTime.modDev {d e : Dev} {s : State} {f : Device → Device}
    (h : (f (s.dev e)).tsu.time = (s.dev e).tsu.time) : SameTime d s (s.modDev e f) := by
  unfold SameTime
  rw [State.dev_modDev]
  split
  · next same => rw [h, same]
  · rfl

theorem SameTime.modMmsl (d : Dev) (s : State) (m : Mac) (f : Mmsl → Mmsl) : SameTime d s (modMmsl s m f) :=
  .of_dev (modMmsl_dev s m f d)

section Forms

variable {d : Dev} {s : State}

theorem KeepsTime.next {t : State} (h : SameTime d s t) : KeepsTime d s (.next t) := by rintro u ⟨⟩; exact h

theorem KeepsTime.stay : KeepsTime d s (.next s) := .next (.of_dev rfl)

theorem KeepsTime.fault (r : Fault) : KeepsTime d s (.fault r) := by intro t e; cases e

theorem KeepsTime.refused (r : Refusal) : KeepsTime d s (.refused r) := by intro t e; cases e

theorem KeepsTime.ite {p : Prop} [Decidable p] {a b : Result} (h : KeepsTime d s a) (k : KeepsTime d s b) :
    KeepsTime d s (if p then a else b) := by
  split
  · exact h
  · exact k

theorem readAs_keepsTime {t : State} (v : Word) (h : SameTime d s t) : KeepsTime d s (readAs v t) :=
  .next ((SameTime.of_dev (State.dev_rdata t v d)).trans h)

theorem whenPresent_keepsTime {p : Bool} {off : Nat} {a : Result} (op : MmioOp) (h : KeepsTime d s a) :
    KeepsTime d s (whenPresent p off op s a) := by
  refine .ite h ?_
  cases op with
  | read => exact .next (.of_dev (by cases d <;> rfl))
  | write v => exact .fault _

theorem rwReg_keepsTime {off : Nat} {rsvd value : Word} {store : Word → Result} (op : MmioOp)
    (h : ∀ v, op = .write v → KeepsTime d s (store v)) : KeepsTime d s (rwReg off rsvd value store op s) := by
  cases op with
  | read => exact readAs_keepsTime value (.of_dev rfl)
  | write v => exact .ite (.fault _) (h v rfl)

theorem roReg_keepsTime {value : Word} (op : MmioOp) : KeepsTime d s (roReg value op s) := by
  cases op with
  | read => exact readAs_keepsTime value (.of_dev rfl)
  | write v => exact .stay

theorem corReg_keepsTime {value : Word} {cleared : State} (op : MmioOp) (h : SameTime d s cleared) :
    KeepsTime d s (corReg value cleared op s) := by
  cases op with
  | read => exact readAs_keepsTime value h
  | write v => exact .stay

theorem w1cReg_keepsTime {value : Word} {clear : Word → State} (op : MmioOp) (h : ∀ v, SameTime d s (clear v)) :
    KeepsTime d s (w1cReg value clear op s) := by
  cases op with
  | read => exact readAs_keepsTime value (.of_dev rfl)
  | write v => exact .next (h v)

theorem cmdReg_keepsTime {act : Word → State} (op : MmioOp) (h : ∀ v, SameTime d s (act v)) :
    KeepsTime d s (cmdReg act op s) := by
  cases op with
  | read => exact readAs_keepsTime 0 (.of_dev rfl)
  | write v => exact .next (h v)

theorem queuePtrReg_keepsTime {e : Dev} {q : Fin 4} {off : Nat} {enabled : Bool} {value : Word}
    {store : Word → Queue → Queue} (op : MmioOp) : KeepsTime d s (queuePtrReg e q off enabled value store op s) := by
  refine whenPresent_keepsTime op ?_
  cases op with
  | read => exact readAs_keepsTime value (.of_dev rfl)
  | write v => exact .ite (.fault _) (.ite (.refused _) (.ite (.fault _) (.next (.modDev rfl))))

end Forms

/-! ### Register accesses -/

/-- The access writes the time of device `d` (R211-R213). -/
def setsTime (d : Dev) : Instr → Bool
  | .tsuSecHi e (.write _) => decide (e = d)
  | .tsuSecLo e (.write _) => decide (e = d)
  | .tsuNsec e (.write _) => decide (e = d)
  | _ => false

theorem writesTsu_eq (d : Dev) (i : Input) : writesTsu d i = (accessOf i).any (setsTime d) := by
  unfold writesTsu
  cases accessOf i with
  | none => rfl
  | some a => unfold setsTime; split <;> simp_all

/-- An access leaves the time of its own device, unless it writes it. -/
theorem exec_keepsOwnTime (i : Instr) (s : State) (h : setsTime i.dev i = false) : KeepsTime i.dev s (exec i s) := by
  cases i with
  | ncrRead d => exact readAs_keepsTime _ (.of_dev rfl)
  | ncrWrite d v => exact .ite (.fault _) (.next (.modDev (congrArg Tsu.time (Device.tsu_writeNcr _ v))))
  | tsuSecHi d op | tsuSecLo d op | tsuNsec d op =>
    refine rwReg_keepsTime op fun v write => ?_
    subst write
    exact absurd (h.symm.trans (decide_eq_true rfl)) Bool.false_ne_true
  | moduleId d op | ptpTxSec d op | ptpTxNsec d op | ptpRxSec d op | ptpRxNsec d op | peerTxSec d op
  | peerTxNsec d op | peerRxSec d op | peerRxNsec d op => exact roReg_keepsTime op
  | hrb d op | hrt d op | rxPtpUnicast d op | txPtpUnicast d op | txBdControl d op | rxBdControl d op
  | tsuSubInc d op | tsuInc d op | sa1b d op | sa1t d op | sa2b d op | sa2t d op | sa3b d op | sa3t d op | sa4b d op
  | sa4t d op | tidm1 d op | tidm2 d op | tidm3 d op | tidm4 d op =>
    exact rwReg_keepsTime op fun _ _ => .next (.modDev rfl)
  | dmacfg d op => exact rwReg_keepsTime op fun _ _ => .ite (.refused _) (.ite (.fault _) (.next (.modDev rfl)))
  | jml d op => exact rwReg_keepsTime op fun _ _ => .ite (.next (.modDev rfl)) (.fault _)
  | ncfgr d op => exact rwReg_keepsTime op fun _ _ => .ite (.refused _) (.next (.modDev rfl))
  | stackedVlan d op => exact rwReg_keepsTime op fun _ _ => .ite (.fault _) (.next (.modDev rfl))
  | tsr d op | rsr d op => exact w1cReg_keepsTime op fun _ => .modDev rfl
  | octTxLo d op | octTxHi d op | octRxLo d op | octRxHi d op | framesTx d op | bcastTx d op | mcastTx d op
  | pauseTx d op | frames64Tx d op | frames65to127Tx d op | frames128to255Tx d op | frames256to511Tx d op
  | frames512to1023Tx d op | frames1024to1518Tx d op | frames1519Tx d op | txUnderruns d op
  | singleCollisions d op | multipleCollisions d op | excessiveCollisions d op | lateCollisions d op
  | deferredTx d op | crsErrors d op | framesRx d op | bcastRx d op | mcastRx d op | pauseRx d op
  | frames64Rx d op | frames65to127Rx d op | frames128to255Rx d op | frames256to511Rx d op
  | frames512to1023Rx d op | frames1024to1518Rx d op | frames1519Rx d op | undersizeRx d op | oversizeRx d op
  | jabbersRx d op | fcsErrorsRx d op | lengthErrorsRx d op | symbolErrorsRx d op | alignmentErrorsRx d op
  | resourceErrorsRx d op | overrunsRx d op | ipChecksumErrorsRx d op | tcpChecksumErrorsRx d op
  | udpChecksumErrorsRx d op | autoFlushedRx d op => exact corReg_keepsTime op (.modDev rfl)
  | rxbufSizeQ1 d op | rxbufSizeQ2 d op | rxbufSizeQ3 d op | t1_0 d op | t1_1 d op | t1_2 d op | t1_3 d op
  | t2_0 d op | t2_1 d op | t2_2 d op | t2_3 d op | ethtype_0 d op | ethtype_1 d op | ethtype_2 d op
  | ethtype_3 d op | cmpW0_0 d op | cmpW1_0 d op | cmpW0_1 d op | cmpW1_1 d op | cmpW0_2 d op | cmpW1_2 d op
  | cmpW0_3 d op | cmpW1_3 d op | cmpW0_4 d op | cmpW1_4 d op | cmpW0_5 d op | cmpW1_5 d op | cmpW0_6 d op
  | cmpW1_6 d op | cmpW0_7 d op | cmpW1_7 d op | cmpW0_8 d op | cmpW1_8 d op | cmpW0_9 d op | cmpW1_9 d op
  | cmpW0_10 d op | cmpW1_10 d op | cmpW0_11 d op | cmpW1_11 d op =>
    exact whenPresent_keepsTime op (rwReg_keepsTime op fun _ _ => .next (.modDev rfl))
  | rxqbqp d op | rxqbqpQ1 d op | rxqbqpQ2 d op | rxqbqpQ3 d op | txqbqp d op | txqbqpQ1 d op | txqbqpQ2 d op
  | txqbqpQ3 d op => exact queuePtrReg_keepsTime op
  | isr d op | isrQ1 d op | isrQ2 d op | isrQ3 d op =>
    exact whenPresent_keepsTime op (corReg_keepsTime op (.modDev rfl))
  | ier d op | ierQ1 d op | ierQ2 d op | ierQ3 d op | idr d op | idrQ1 d op | idrQ2 d op | idrQ3 d op =>
    exact whenPresent_keepsTime op (cmdReg_keepsTime op fun _ => .modDev rfl)
  | imr d op | imrQ1 d op | imrQ2 d op | imrQ3 d op | mmslStatus d op | mmslIntMask d op =>
    exact whenPresent_keepsTime op (roReg_keepsTime op)
  | mmslAssErr d op | mmslAssOk d op | mmslFragRx d op | mmslFragTx d op | mmslIntStatus d op =>
    exact whenPresent_keepsTime op (corReg_keepsTime op (.modMmsl _ s _ _))
  | mmslIntEn d op | mmslIntDis d op =>
    exact whenPresent_keepsTime op (cmdReg_keepsTime op fun _ => .modMmsl _ s _ _)
  | mmslControl d op =>
    exact whenPresent_keepsTime op (rwReg_keepsTime op fun _ _ => .ite (.fault _) (.next (.modMmsl _ s _ _)))

/-- An access leaves the time of every device, unless it writes it. -/
theorem exec_keepsTime (d : Dev) (i : Instr) (s : State) (h : setsTime d i = false) : KeepsTime d s (exec i s) := by
  by_cases own : d = i.dev
  · subst own
    exact exec_keepsOwnTime i s h
  · exact fun t e => .of_dev ((exec_framed i s t e).dev d own)

theorem accessUnlisted_keepsTime (d e : Dev) (off : Nat) (op : MmioOp) (s : State) :
    KeepsTime d s (accessUnlisted e off op s) := by
  have stored {p : Bool} {o : Nat} {rsvd value : Word} {f : Word → Device → Device}
      (h : ∀ v, (f v (s.dev e)).tsu = (s.dev e).tsu) : KeepsTime d s
        (whenPresent p o op s (rwReg o rsvd value (fun v => .next (s.modDev e (f v))) op s)) :=
    whenPresent_keepsTime op (rwReg_keepsTime op fun v _ => .next (.modDev (congrArg Tsu.time (h v))))
  unfold accessUnlisted
  refine .ite (stored fun _ => rfl) (.ite (stored fun _ => rfl) (.ite (stored fun _ => rfl)
    (.ite (.ite (stored fun _ => rfl) (stored fun _ => rfl)) ?_)))
  exact whenPresent_keepsTime (p := false) (a := .next s) op .stay

theorem runDecoded_keepsTime {d : Dev} {r : Except Reject Instr} {s : State}
    (h : r.toOption.any (setsTime d) = false) : KeepsTime d s (runDecoded r s) := by
  unfold runDecoded
  split
  · exact exec_keepsTime d _ s h
  · exact .refused _
  · exact accessUnlisted_keepsTime d _ _ _ s

theorem runBus_keepsTime {d : Dev} {a : Word} {n : Nat} {op : MmioOp} {s : State}
    (h : writesTsu d (.bus a n op) = false) : KeepsTime d s (runBus a n op s) := by
  rw [writesTsu_eq] at h
  unfold accessOf at h
  unfold runBus
  split
  · exact .refused _
  · next e window =>
    simp only [window] at h
    by_cases word : n = 4
    · rw [if_neg (not_not_intro word)]
      rw [if_pos word] at h
      exact runDecoded_keepsTime h
    · rw [if_pos word]
      exact .refused _

/-! ### Steps of the agents -/

theorem runTxFetch_keepsTime (d e : Dev) (q : Fin 4) (errs : List Nat) (s : State) :
    KeepsTime d s (runTxFetch e q errs s) := by
  have fetched {y : Device} (h : y.tsu = (s.dev e).tsu) : KeepsTime d s (.next (s.setDev e y)) :=
    .next (SameTime.modDev (f := fun _ => y) (congrArg Tsu.time h))
  unfold runTxFetch
  simp only
  refine .ite .stay ?_
  split
  · exact .fault _
  · exact fetched rfl
  · exact fetched rfl
  · exact .ite (.fault _) (.ite (.fault _) (fetched rfl))

theorem runTxDone_keepsTime (d e : Dev) (q : Fin 4) (dr : TxDraws) (s : State) : KeepsTime d s (runTxDone e q dr s) := by
  intro t h
  cases inflight : ((s.dev e).queue q).inflight with
  | none =>
    cases (runTxDone_of_idle dr inflight).symm.trans h
    exact .of_dev rfl
  | some fr =>
  cases draws : txDrawsInSet dr s e fr (txImage (s.dev e) fr).frame.length with
  | false =>
    cases (runTxDone_of_not_inSet inflight draws).symm.trans h
    exact .of_dev rfl
  | true =>
  obtain ⟨others, complete, records⟩ := runTxDone_records inflight draws h
  by_cases own : d = e
  · subst own
    obtain ⟨ended, -⟩ := (s.dev d).txEnded_events q (txOutcome fr dr.outcome) (txImage (s.dev d) fr) complete
    simp only at records
    split at records
    · obtain ⟨looped, -⟩ := Device.rxRecorded_spec _ (txImage (s.dev d) fr).frame dr.loop
      exact .of_tsu ((records.tsu.trans looped).trans ended)
    · exact .of_tsu (records ▸ ended)
  · exact .of_dev (others d own)

theorem rxDevice_keepsTime (d e : Dev) (f : List Byte) (dr : RxDraws) (s : State) :
    KeepsTime d s (rxDevice e f dr s) := by
  intro t h
  obtain ⟨kept, others⟩ := rxDevice_recordsOnly e f dr s t h
  by_cases own : d = e
  · subst own
    obtain ⟨recorded, -⟩ := (s.dev d).rxRecorded_spec f dr
    exact .of_tsu (kept.tsu.trans recorded)
  · exact .of_dev (others d own)

theorem runRxFrame_keepsTime (d : Dev) (m : Mac) (a : Arrival) (dr : RxDraws) (s : State) :
    KeepsTime d s (runInput (.rxFrame m a dr) s) := by
  have accounted : SameTime d s (rxAccounted m a s) := .of_dev (State.setMmsl_dev s m _ d)
  rw [runRxFrame_eq]
  exact .ite .stay (.ite (.next accounted) fun t h => (rxDevice_keepsTime d _ _ _ _ t h).trans accounted)

/-- Every step leaves the time of a device, but for a write of it, its tick and reset. -/
theorem runInput_keepsTime {d : Dev} {i : Input} (s : State) (access : writesTsu d i = false) (tick : i ≠ .tsuTick d)
    (reset : i ≠ .hwReset) : KeepsTime d s (runInput i s) := by
  cases i with
  | mmio t => exact runDecoded_keepsTime ((writesTsu_eq d _).symm.trans access)
  | bus a n op => exact runBus_keepsTime access
  | hostStore a b => exact .ite (.fault _) (.ite (.fault _) (.next (.of_dev (State.dev_mem s _ d))))
  | hostLoad a => exact .ite (.fault _) (readAs_keepsTime _ (.of_dev rfl))
  | txFetch e q errs => exact runTxFetch_keepsTime d e q errs s
  | txDone e q dr => exact runTxDone_keepsTime d e q dr s
  | rxFrame m a dr => exact runRxFrame_keepsTime d m a dr s
  | tsuTick e =>
    have other : d ≠ e := fun same => tick (congrArg Input.tsuTick same.symm)
    exact .next (.of_dev (State.dev_modDev_of_ne s e d _ other))
  | mmTimeout m | mmRxRespond m | mmRxVerify m => exact .ite (.next (.modMmsl d s m _)) .stay
  | mmSendVerify m | mmSendRespond m =>
    exact .ite (.next ((SameTime.of_dev (State.dev_lineOut _ _ d)).trans (SameTime.modMmsl d s m _))) .stay
  | lineEvent e c => exact .ite (.next (.modDev rfl)) .stay
  | hwReset => exact absurd rfl reset

/-! ### The value -/

/-- Seconds that do not wrap. -/
theorem toNat_add_one {v : BitVec 64} (h : v ≠ BitVec.allOnes 64) : (v + 1).toNat = v.toNat + 1 := by
  have below : v.toNat ≠ 2 ^ 64 - 1 := fun e => h (BitVec.eq_of_toNat_eq (e.trans BitVec.toNat_allOnes.symm))
  have bound := v.isLt
  exact (BitVec.toNat_add v 1).trans (Nat.mod_eq_of_lt (show v.toNat + 1 < 2 ^ 64 by omega))

/-- A tick adds the increment and the carry of the sub-nanoseconds (R464). -/
theorem tsuTotal_tick {d : Dev} {s t : State} (large : 511 < s.cfg.nsRollover) (fits : s.cfg.nsRollover ≤ 2 ^ 30)
    (inRange : (s.dev d).tsu.ns.toNat < s.cfg.nsRollover) (noWrap : (s.dev d).tsu.sec ≠ BitVec.allOnes 64)
    (h : runInput (.tsuTick d) s = .next t) :
    tsuTotal t d = tsuTotal s d + field (s.dev d).tsu.inc 0 8 + (s.dev d).tsu.accSum / 2 ^ 24 := by
  obtain ⟨ns, below, above⟩ := tsuTickResult d s large fits inRange
  rcases Nat.lt_or_ge (s.dev d).tsu.nsSum s.cfg.nsRollover with low | high
  · obtain ⟨value, result⟩ := below low
    cases result.symm.trans h
    simp only [tsuTotal, State.dev_setDev_self, State.setDev_cfg, value]
    unfold Tsu.accSum
    omega
  · obtain ⟨value, result⟩ := above high
    cases result.symm.trans h
    have sec : ((s.dev d).tsu.sec + 1).toNat = (s.dev d).tsu.sec.toNat + 1 := toNat_add_one noWrap
    simp only [tsuTotal, State.dev_setDev_self, State.setDev_cfg, Device.setQueue_tsu, value, sec, Nat.add_mul]
    unfold Tsu.nsSum at high
    unfold Tsu.accSum at high ⊢
    omega

/-- Settles O28: a tick adds its increment and carry, and every other step leaves the time. -/
theorem tsuNeverDecreases : Obligations.TsuNeverDecreases := by
  intro i s t d ok fits inRange noWrap access reset h
  constructor
  · rintro rfl
    have carry := (s.dev d).tsu.carry_le_one
    have total := tsuTotal_tick (Params.ok.nsRollover ok) fits (inRange d) noWrap h
    omega
  · intro tick
    have same := runInput_keepsTime s access tick reset t h
    obtain ⟨sec, ns⟩ := Prod.mk.inj same
    rw [tsuTotal, tsuTotal, (runInput_changes i s t h).cfg, sec, ns]

end Sys2Proof.Machine
end

section
/-! PROOF. One-step sync (44_tsu R480, R490-R494): the field written over a Sync frame and the UDP checksum cleared before it,
then the frame on the line beside the event registers and the timestamp words of the same step. -/

namespace Sys2Proof.Machine

/-! ### The field written -/

theorem slice_patch_self {f b : List Byte} {i : Nat} (h : i + b.length ≤ f.length) :
    slice (patch f i b) i b.length = b := by
  rw [slice_patch_inside h le_rfl le_rfl]
  simp [slice]

/-- A Sync frame `f` with the field at `lo` written as `b`, and the UDP checksum over IPv4 cleared (R491-R493; log 21). -/
structure SyncWritten (e : PtpMsg) (lo : Nat) (b f h : List Byte) : Prop where
  length : h.length = f.length
  field  : slice h lo b.length = b
  keeps  : SyncKeeps e lo (lo + b.length) f h

/-- The checksum of a message over UDP stands right before the message, so before any field of it. -/
theorem syncWritten_ossChecksum {e : PtpMsg} {lo : Nat} {b f : List Byte}
    (udp : ∀ l4, e.via = .ipv4 l4 → e.start = l4 + 8) (after : e.start ≤ lo) (fits : lo + b.length ≤ f.length) :
    SyncWritten e lo b f (ossChecksum e.via (patch f lo b)) := by
  have length := length_patch fits
  have plain (other : ∀ l4, e.via ≠ .ipv4 l4) : SyncWritten e lo b f (patch f lo b) :=
    ⟨length, slice_patch_self fits, fun i outside =>
      ⟨fun ⟨l4, via, _⟩ => absurd via (other l4), fun _ => getD_patch_outside fits outside⟩⟩
  cases via : e.via with
  | ethernet => exact plain (by simp [via])
  | ipv6 => exact plain (by simp [via])
  | ipv4 l4 =>
    have start := udp l4 via
    have room : l4 + 6 + [(0 : Byte), 0].length ≤ (patch f lo b).length := by
      rw [length]
      exact (show l4 + 8 ≤ lo by omega).trans (by omega)
    refine ⟨(length_patch room).trans length, ?_, fun i outside => ⟨?_, fun away => ?_⟩⟩
    · exact (slice_patch_outside room (.inr (show l4 + 8 ≤ lo by omega))).trans (slice_patch_self fits)
    · rintro ⟨l4', same, place⟩
      cases via.symm.trans same
      rw [ossChecksum, List.getD_eq_getElem?_getD, getElem?_patch room, if_pos (by simp only [List.length]; omega)]
      rcases place with rfl | rfl <;> simp
    · obtain ⟨first, second⟩ := away l4 via
      rw [ossChecksum, getD_patch_outside room (by simp only [List.length]; omega), getD_patch_outside fits outside]

/-- Where a message over UDP starts. -/
theorem ptpMessage_start_of_ipv4 {vlan : Word} {f : List Byte} {u : Option Word} {e : PtpMsg}
    (h : ptpMessage (parseFrame vlan f.length f) f u = some e) (l4 : Nat) (via : e.via = .ipv4 l4) :
    e.start = l4 + 8 := by
  obtain ⟨-, -, carrier⟩ := (ptpMessage_eq_some_iff e).mp h
  obtain ⟨-, -, ethernet⟩ | ⟨l4', -, -, start, ⟨-, ipv4, -⟩ | ⟨-, ipv6, -⟩⟩ :=
    (ptpCarrier_eq_some_iff le_rfl rfl).mp carrier
  · cases via.symm.trans ethernet
  · cases via.symm.trans ipv4
    exact start
  · cases via.symm.trans ipv6

/-! ### One-step sync -/

section Sync

variable {ncr : Word} {t : Tsu} {g : Option PtpMsg} {nocrc : Bool} {f : List Byte}

/-- A frame one-step sync passes over (R490). -/
theorem oneStepSync_of_passed
    (h : ncrOssEn ncr = false ∨ nocrc = true ∨ ∀ e, g = some e → e.kind ≠ 0) : oneStepSync ncr t g nocrc f = f := by
  unfold oneStepSync
  split
  · rfl
  · next e =>
    refine if_pos ?_
    rcases h with off | plain | other
    · simp [off]
    · simp [plain]
    · simp [other e rfl]

variable {e : PtpMsg}

theorem oneStepSync_of_sync (kind : e.kind = 0) (on : ncrOssEn ncr = true) :
    oneStepSync ncr t (some e) false f =
      ((if ncrOssCorr ncr then ossAdjust t e.start f else ossReplace t e.start f).map (ossChecksum e.via)).getD f := by
  unfold oneStepSync
  simp only [on, kind, Bool.not_true, Bool.or_false, Bool.false_eq_true, ne_eq, not_true_eq_false, decide_false,
    if_false]
  cases (if ncrOssCorr ncr = true then ossAdjust t e.start f else ossReplace t e.start f) <;> rfl

variable (kind : e.kind = 0) (on : ncrOssEn ncr = true)

include kind on

/-- Replace mode: the TSU value over the originTimestamp, where it fits (R491). -/
theorem oneStepSync_replace (mode : ncrOssCorr ncr = false) : oneStepSync ncr t (some e) false f =
    if e.start + 44 ≤ f.length then
      ossChecksum e.via (patch f (e.start + 34) (beBytes (t.sec.toNat % 2 ^ 48) 6 ++ beBytes t.ns.toNat 4))
    else f := by
  rw [oneStepSync_of_sync kind on, mode, if_neg Bool.false_ne_true, ossReplace]
  split <;> rfl

/-- Adjust mode: the delta added to the correctionField, where it fits (R492). -/
theorem oneStepSync_adjust (mode : ncrOssCorr ncr = true) : oneStepSync ncr t (some e) false f =
    if e.start + 16 ≤ f.length then
      ossChecksum e.via (patch f (e.start + 8)
        (beBytes ((beField f (e.start + 8) 8 + (Config.ossAdjustDelta t.sec t.ns f).toNat) % 2 ^ 64) 8))
    else f := by
  have sum : (BitVec.ofNat 64 (beField f (e.start + 8) 8) + Config.ossAdjustDelta t.sec t.ns f).toNat =
      (beField f (e.start + 8) 8 + (Config.ossAdjustDelta t.sec t.ns f).toNat) % 2 ^ 64 := by
    rw [BitVec.toNat_add, BitVec.toNat_ofNat, Nat.mod_add_mod]
  rw [oneStepSync_of_sync kind on, mode, if_pos rfl, ossAdjust, ← sum]
  split <;> rfl

variable (udp : ∀ l4, e.via = .ipv4 l4 → e.start = l4 + 8)

include udp

theorem syncWritten_of_replace (mode : ncrOssCorr ncr = false) (fits : e.start + 44 ≤ f.length) :
    SyncWritten e (e.start + 34) (beBytes (t.sec.toNat % 2 ^ 48) 6 ++ beBytes t.ns.toNat 4) f
      (oneStepSync ncr t (some e) false f) := by
  rw [oneStepSync_replace kind on mode, if_pos fits]
  exact syncWritten_ossChecksum udp (Nat.le_add_right _ _) (by simpa [length_beBytes] using fits)

theorem syncWritten_of_adjust (mode : ncrOssCorr ncr = true) (fits : e.start + 16 ≤ f.length) :
    SyncWritten e (e.start + 8)
      (beBytes ((beField f (e.start + 8) 8 + (Config.ossAdjustDelta t.sec t.ns f).toNat) % 2 ^ 64) 8) f
      (oneStepSync ncr t (some e) false f) := by
  rw [oneStepSync_adjust kind on mode, if_pos fits]
  exact syncWritten_ossChecksum udp (Nat.le_add_right _ _) (by simpa [length_beBytes] using fits)

end Sync

/-- One-step sync keeps the length of the frame its message was found in. -/
theorem length_oneStepSync {vlan : Word} {f : List Byte} {u : Option Word} (ncr : Word) (t : Tsu) (nocrc : Bool) :
    (oneStepSync ncr t (ptpMessage (parseFrame vlan f.length f) f u) nocrc f).length = f.length := by
  cases on : ncrOssEn ncr with
  | false => rw [oneStepSync_of_passed (.inl on)]
  | true =>
  cases nocrc with
  | true => rw [oneStepSync_of_passed (.inr (.inl rfl))]
  | false =>
  cases message : ptpMessage (parseFrame vlan f.length f) f u with
  | none => rfl
  | some e =>
  have udp := ptpMessage_start_of_ipv4 message
  by_cases kind : e.kind = 0
  · cases mode : ncrOssCorr ncr with
    | false =>
      by_cases fits : e.start + 44 ≤ f.length
      · exact (syncWritten_of_replace kind on udp mode fits).length
      · rw [oneStepSync_replace kind on mode, if_neg fits]
    | true =>
      by_cases fits : e.start + 16 ≤ f.length
      · exact (syncWritten_of_adjust kind on udp mode fits).length
      · rw [oneStepSync_adjust kind on mode, if_neg fits]
  · rw [oneStepSync_of_passed (.inr (.inr (by rintro _ ⟨⟩; exact kind)))]

/-! ### The frame on the line -/

/-- The bytes of a frame behind checksum offload (41_tx_ring R325). -/
def txOffloaded (fr : TxFrame) : List Byte :=
  if fr.nocrc = false ∧ dmacfgTxcoen fr.conf.dmacfg = true then (checksumOffload fr.conf.stackedVlan fr.data).1
  else fr.data

/-- The bytes of a frame behind one-step sync (R490). -/
def txSynced (x : Device) (fr : TxFrame) : List Byte :=
  oneStepSync fr.conf.ncr x.tsu (txImage x fr).ptp fr.nocrc (txOffloaded fr)

/-- A frame leaves behind one-step sync, padded and with its FCS unless NOCRC (41_tx_ring R320). -/
theorem txImage_frame (x : Device) (fr : TxFrame) :
    (txImage x fr).frame = if fr.nocrc then txSynced x fr else withFcs (pad60 (txSynced x fr)) := by
  unfold txSynced txOffloaded txImage
  cases fr.nocrc <;> cases dmacfgTxcoen fr.conf.dmacfg <;> rfl

/-! ### The timestamp words -/

theorem Memory.read32_writeWords_last (pre : List (Word × Word)) (m : Memory) (a v : Word) {post : List (Word × Word)}
    (apart : ∀ w ∈ post, ∀ b, inWord w.1 b → ¬ inWord a b) :
    Memory.read32 (Memory.writeWords m (pre ++ (a, v) :: post)) a = v := by
  have behind (m : Memory) : Memory.read32 (Memory.writeWords m post) a = Memory.read32 m a := by
    refine Memory.read32_congr fun b hb => Memory.read_writeWords_of_ne post m b fun w hw => ?_
    simpa only [inWord, not_or] using show ¬ inWord w.1 b from fun h => apart w hw b h hb
  rw [Memory.writeWords_append, Memory.writeWords, behind, Memory.read32_write32]

/-- The words of an extended descriptor do not meet, at the end of memory either. -/
theorem descriptorWords_apart (a : Word) (b : Nat) :
    (inWord (a + 4) b → ¬ inWord (a + 8) b ∧ ¬ inWord (a + 12) b) ∧ (inWord (a + 12) b → ¬ inWord (a + 8) b) := by
  simp only [inWord, BitVec.toNat_add, BitVec.ofNat_eq_ofNat, BitVec.toNat_ofNat]
  omega

/-- The words written back behind the timestamp leave it alone, where the other descriptors do. -/
theorem read32_stampWords {x : Device} {fr : TxFrame} {o : TxOutcome} {a w : Word} {rest : List (Word × Word)}
    (m : Memory) (descs : fr.descs = (a, w) :: rest) (stamped : txStamped x fr o = true)
    (apart : ∀ p ∈ rest, ∀ b, inWord (p.1 + 4) b → ¬ inWord (a + 8) b ∧ ¬ inWord (a + 12) b) :
    let m' := Memory.writeWords m (txWrites x fr o)
    Memory.read32 m' (a + 8) = (x.tsu.sec.extractLsb' 0 2 ++ x.tsu.ns : BitVec 32)
      ∧ Memory.read32 m' (a + 12) = (x.tsu.sec.extractLsb' 2 4).setWidth 32 := by
  have later (v : Word × Word) (hv : v ∈ rest.map (fun p => (p.1 + 4, p.2 ||| 0x80000000#32))
      ++ [(a + 4, txFirstWord w (if outcomeIsOk o then (txImage x fr).ck else 0) (txStamped x fr o) o)]) (b : Nat)
      (hb : inWord v.1 b) : ¬ inWord (a + 8) b ∧ ¬ inWord (a + 12) b := by
    rcases List.mem_append.mp hv with other | own
    · obtain ⟨p, hp, rfl⟩ := List.mem_map.mp other
      exact apart p hp b hb
    · rw [List.mem_singleton.mp own] at hb
      exact (descriptorWords_apart a b).1 hb
  rw [txWrites_eq x o descs, txWritesBefore, if_pos stamped, List.append_assoc]
  refine ⟨Memory.read32_writeWords_last [] m (a + 8) _ fun v hv b hb => ?_,
    Memory.read32_writeWords_last [_] m (a + 12) _ fun v hv b hb => (later v hv b hb).2⟩
  rcases List.mem_cons.mp hv with rfl | behind
  · exact (descriptorWords_apart a b).2 hb
  · exact (later v behind b hb).1

theorem txEndState_dev (s : State) (d : Dev) (o : TxOutcome) (frags : Nat) (m : Memory) (y : Device) :
    (txEndState s d o frags m y).dev d = y := by
  cases d <;> rfl

/-- The step that delivers a frame to the line, without a bus error. -/
theorem runTxDone_delivers {d : Dev} {q : Fin 4} {dr : TxDraws} {s : State} {fr : TxFrame} {a w : Word}
    {rest : List (Word × Word)} {c : Nat} (noErr : NoBusErr dr.errs s.cfg)
    (inflight : ((s.dev d).queue q).inflight = some fr) (descs : fr.descs = (a, w) :: rest)
    (outcome : txOutcome fr dr.outcome = .ok c) (line : ncrLbLocal fr.conf.ncr = false)
    (draws : txDrawsInSet dr s d fr (txImage (s.dev d) fr).frame.length = true)
    (fits : txStamped (s.dev d) fr (.ok c) = true → a.toNat + 12 < 2 ^ 32) :
    ∃ t, runInput (.txDone d q dr) s = .next t
      ∧ t.lineOut = s.lineOut ++ [.txOut d (txImage (s.dev d) fr).frame (txClass s d)]
      ∧ t.mem = Memory.writeWords s.mem (txWrites (s.dev d) fr (.ok c))
      ∧ (t.dev d).ptp = txEventRegs (s.dev d) (eventKind (txImage (s.dev d) fr).ptp) := by
  have spec := (s.dev d).txEnded_spec q (.ok c) (txImage (s.dev d) fr) true
  have done := runTxDone_complete noErr inflight draws outcome descs fits
  have delivered : outcomeIsOk (.ok c) ≠ false := by simp [outcomeIsOk]
  rw [txLeaves, if_neg delivered, line, if_neg Bool.false_ne_true] at done
  exact ⟨_, done, rfl, rfl,
    (congrArg Device.ptp ((State.dev_lineOut _ _ d).trans (txEndState_dev s d _ _ _ _))).trans spec.ptp⟩

/-- Settles O40: the frame is written by one-step sync, and the registers and the timestamp words take the TSU value of the
same step. -/
theorem oneStepSyncAgrees : Obligations.OneStepSyncAgrees := by
  intro d q dr s fr a w rest c noErr inflight descs outcome line draws x f g stamped fits
  have message : (txImage x fr).ptp = g := txImage_ptp x fr
  have taken : txStamped x fr (.ok c) = stamped := by
    rw [txStamped, message]
    rfl
  have synced : txSynced x fr = oneStepSync fr.conf.ncr x.tsu g fr.nocrc f := by
    rw [txSynced, message]
    rfl
  obtain ⟨t, done, out, mem, ptp⟩ := runTxDone_delivers noErr inflight descs outcome line draws
    fun h => fits (taken.symm.trans h)
  rw [txImage_frame, synced] at out
  refine ⟨t, oneStepSync fr.conf.ncr x.tsu g fr.nocrc f, done, out, length_oneStepSync _ _ _, oneStepSync_of_passed,
    fun e sync kind on crc => ?_⟩
  have udp := ptpMessage_start_of_ipv4 (show ptpMessage _ f _ = some e from sync)
  have event : eventKind g = some 0 := by simp [sync, eventKind, PtpMsg.isEvent, kind]
  rw [message, event] at ptp
  rw [sync, crc]
  refine ⟨fun mode short => ?_, fun mode room => ?_, fun mode short => ?_, fun mode room => ?_⟩
  · rw [oneStepSync_replace kind on mode, if_neg (Nat.not_le.mpr short)]
  · obtain ⟨-, field, keeps⟩ := syncWritten_of_replace (t := x.tsu) kind on udp mode room
    rw [List.length_append, length_beBytes, length_beBytes] at field keeps
    refine ⟨field, by rw [ptp]; rfl, by rw [ptp]; rfl, fun stamps apart => ?_, keeps⟩
    rw [mem]
    exact read32_stampWords s.mem descs (taken.trans stamps) apart
  · rw [oneStepSync_adjust kind on mode, if_neg (Nat.not_le.mpr short)]
  · obtain ⟨length, field, keeps⟩ := syncWritten_of_adjust (t := x.tsu) kind on udp mode room
    rw [length_beBytes] at field keeps
    refine ⟨?_, keeps⟩
    rw [(slice_eq_beBytes_iff _ (by rw [length]; exact room)).mp field]
    exact Nat.mod_mod _ _

end Sys2Proof.Machine
end

section
/-! PROOF. The MAC merge sublayers stay in states their rules allow (45_mmsl R520-R534; 10_state R70): one rule for each
update of Laws/Steps.lean, and what a register write makes of the verify state. -/

namespace Sys2Proof.Machine

/-! ### The stored fields of MMSL_CONTROL -/

theorem mmPen_stored (v : Word) : mmPen (v &&& mmControlStored) = mmPen v := by simp [mmPen, mmControlStored]

theorem mmVdis_stored (v : Word) : mmVdis (v &&& mmControlStored) = mmVdis v := by simp [mmVdis, mmControlStored]

theorem mmVtime_stored (v : Word) : mmVtime (v &&& mmControlStored) = mmVtime v := by
  have all : mmControlStored.extractLsb' 8 8 = BitVec.allOnes 8 := by decide
  rw [mmVtime, mmVtime, field, field, BitVec.extractLsb'_and, all, BitVec.and_allOnes]

/-! ### Legal machines -/

/-- A change of the verify state sets implemented bits only. -/
theorem Mmsl.setVstat_implemented {y : Mmsl} (h : y.intStatus &&& ~~~mmIntImpl = 0) (v : VState) :
    (y.setVstat v).intStatus &&& ~~~mmIntImpl = 0 := by
  unfold Mmsl.setVstat
  simp only
  split
  · exact h
  · exact or_rsvd h (by decide)

/-- A write that begins verification asks for verified preemption, and one that ends it does not (R527, R528). -/
theorem Mmsl.verified_of_verifyStarts {y : Mmsl} {v : Word} (h : y.verifyStarts v = true) :
    mmPen v = true ∧ mmVdis v = false := by
  simp only [Mmsl.verifyStarts, Bool.and_eq_true, Bool.not_eq_true'] at h
  exact h.1

theorem Mmsl.unverified_of_verifyStops {y : Mmsl} {v : Word} (h : y.verifyStops v = true) :
    mmPen v = false ∨ mmVdis v = true := by
  simp only [Mmsl.verifyStops, Bool.or_eq_true, Bool.and_eq_true, Bool.not_eq_true'] at h
  tauto

namespace Mmsl.Legal

variable {limit : Nat} {y : Mmsl}

/-- Verification that begins, and one that ends by a register write, has its attempts and its wait cleared (R521). -/
theorem restart (h : y.Legal limit) {w : Word} (control : w &&& ~~~mmControlStored = 0)
    (vtime : 1 ≤ mmVtime w ∧ mmVtime w ≤ 128) (v : VState)
    (idle : v = .idle ↔ (mmPen w = false ∨ mmVdis w = true)) :
    (Mmsl.restart { y with control := w } v).Legal limit where
  control := control
  vtime := vtime
  idle := idle
  waiting := nofun
  vcount := Nat.zero_le _
  progress _ _ some := some
  intStatus := setVstat_implemented (y := { y with control := w }) h.intStatus v
  intMask := h.intMask

/-- A write that neither begins nor ends verification finds the machine idle exactly where the new control word does not ask
for verified preemption. -/
theorem idle_of_stays (h : y.Legal limit) {v : Word} (starts : y.verifyStarts v = false)
    (stops : y.verifyStops v = false) : y.vstat = .idle ↔ (mmPen v = false ∨ mmVdis v = true) := by
  simp only [verifyStarts, verifyStops, Bool.and_eq_false_iff, Bool.or_eq_false_iff, Bool.not_eq_false',
    bne_eq_false_iff_eq] at starts stops
  constructor
  · intro still
    rcases h.idle.mp still with pen | vdis
    · simpa [pen] using starts
    · simpa [vdis] using starts
  · intro unverified
    by_contra begun
    obtain ⟨pen, vdis⟩ : mmPen y.control = true ∧ mmVdis y.control = false := by simpa using mt h.idle.mpr begun
    rcases unverified with off | off <;> simp [pen, vdis, begun, off] at stops

/-- A legal write of MMSL_CONTROL begins verification, ends it, or finds the machine idle exactly where it leaves it so
(R527, R528). -/
theorem writeControl (h : y.Legal limit) (v : Word) (vtime : 1 ≤ mmVtime v ∧ mmVtime v ≤ 128) :
    (y.writeControl v).Legal limit := by
  have control : v &&& mmControlStored &&& ~~~mmControlStored = 0 := and_and_not_self v _
  rw [← mmVtime_stored] at vtime
  rw [writeControl_eq]
  cases starts : y.verifyStarts v with
  | true =>
    obtain ⟨pen, vdis⟩ := verified_of_verifyStarts starts
    exact h.restart control vtime .verifying (by simp [mmPen_stored, mmVdis_stored, pen, vdis])
  | false =>
    cases stops : y.verifyStops v with
    | true =>
      have unverified := unverified_of_verifyStops stops
      exact h.restart control vtime .idle (by simpa [mmPen_stored, mmVdis_stored] using unverified)
    | false =>
      have idle := h.idle_of_stays starts stops
      exact { h with control := control, vtime := vtime, idle := by simpa [mmPen_stored, mmVdis_stored] using idle }

/-- Verification ends with a response or the last timeout, outside the idle state (R530, R531). -/
theorem verified (h : y.Legal limit) (verifying : y.vstat = .verifying) {v : VState} (begun : v ≠ .idle)
    (ended : v ≠ .verifying) : { y.setVstat v with waiting := false }.Legal limit :=
  { h with
    idle := iff_of_false begun (mt h.idle.mpr (by rw [verifying]; nofun))
    waiting := nofun
    progress := fun same => absurd same ended
    intStatus := setVstat_implemented h.intStatus v }

theorem timeout (h : y.Legal limit) (waits : y.waiting = true) : (y.timeout limit).Legal limit := by
  obtain ⟨verifying, -⟩ := h.waiting waits
  unfold Mmsl.timeout
  split
  · exact h.verified verifying nofun nofun
  · next more => exact { h with waiting := nofun, progress := fun _ _ _ => h.vcount.lt_of_ne more }

theorem sendVerify (h : y.Legal limit) (verifying : y.vstat = .verifying) (more : y.vcount < limit) :
    { y with vcount := y.vcount + 1, waiting := true }.Legal limit :=
  { h with
    waiting := fun _ => ⟨verifying, Nat.le_add_left 1 _⟩
    vcount := more
    progress := fun _ => nofun }

theorem accounted (h : y.Legal limit) (k : Nat) (aerr : Bool) : (mmslAccounted y k aerr).Legal limit :=
  { h with
    intStatus := by
      unfold mmslAccounted
      simp only
      split
      · exact or_rsvd h.intStatus (by decide)
      · exact h.intStatus }

theorem reset (limit : Nat) : Mmsl.reset.Legal limit where
  control := by decide
  vtime := by decide
  idle := by decide
  waiting := nofun
  vcount := Nat.zero_le _
  progress := nofun
  intStatus := by decide
  intMask := by decide

end Mmsl.Legal

/-- Every update of an MMSL keeps it in a state its rules allow. -/
theorem Mmsl.Update.legal {c : Params} {x y : Mmsl} (u : Mmsl.Update c x y) (h : x.Legal c.verifyLimit) :
    y.Legal c.verifyLimit := by
  induction u with
  | refl => exact h
  | trans _ _ first second => exact second (first h)
  | reset => exact .reset _
  | control y v _ low high => exact h.writeControl v ⟨low, high⟩
  | intStatusRead y => exact { h with intStatus := BitVec.zero_and }
  | intEn y v => exact { h with intMask := and_rsvd h.intMask _ }
  | intDis y v => exact { h with intMask := or_rsvd h.intMask (and_and_not_self v _) }
  | sendVerify y verifying _ more => exact h.sendVerify verifying more
  | timeout y waits => exact h.timeout waits
  | rxRespond y verifying => exact h.verified verifying nofun nofun
  | countRx y k aerr => exact y.countRx_eq k aerr ▸ h.accounted k aerr
  | assErrRead | assOkRead | fragRxRead | fragTxRead | rxVerify | sendRespond | countTx => exact { h with }

/-- Settles O14: each MMSL goes through updates that keep it legal, under the limit the step leaves as it is. -/
theorem stepKeepsMmslLegal : Obligations.StepKeepsMmslLegal := by
  intro s t h hs m
  obtain ⟨-, change⟩ := step_change h
  rw [change.cfg]
  exact (change.mmsl m).legal (hs m)

end Sys2Proof.Machine
end

section
/-! PROOF. The steps of the verify handshake (45_mmsl R529-R533): the machine of a timeout and of a response, field by field,
and each step where it is enabled and where it is not. -/

namespace Sys2Proof.Machine

theorem Mmsl.timeout_last {y : Mmsl} {limit : Nat} (last : y.vcount = limit) : y.timeout limit =
    { y with
      waiting := false
      vstat := .failed
      intStatus := if y.vstat = .failed then y.intStatus else y.intStatus ||| mmVchg } := if_pos last

theorem Mmsl.timeout_more {y : Mmsl} {limit : Nat} (more : y.vcount ≠ limit) :
    y.timeout limit = { y with waiting := false } := if_neg more

theorem Mmsl.setVstat_of_ne {y : Mmsl} {v : VState} (h : y.vstat ≠ v) :
    y.setVstat v = { y with vstat := v, intStatus := y.intStatus ||| mmVchg } := by
  rw [Mmsl.setVstat, if_neg h]

/-- Settles O56: the condition of each step decides between its effect and nothing. -/
theorem verifySteps : Obligations.VerifySteps := by
  intro m s y
  have sends : y.vstat ≠ .verifying ∨ y.waiting = true ∨ s.cfg.verifyLimit ≤ y.vcount →
      ¬ (y.vstat = .verifying ∧ y.waiting = false ∧ y.vcount < s.cfg.verifyLimit) := by
    rintro (other | waits | all) ⟨verifying, still, more⟩
    · exact other verifying
    · exact absurd (still.symm.trans waits) Bool.false_ne_true
    · exact absurd more (Nat.not_lt.mpr all)
  have times (waits : y.waiting = true) :
      runInput (.mmTimeout m) s = .next (s.setMmsl m (y.timeout s.cfg.verifyLimit)) := if_pos waits
  refine ⟨fun verifying still more => if_pos ⟨verifying, still, more⟩, fun h => if_neg (sends h), fun still => ?_,
    fun waits more => ?_, fun waits last => ?_, fun verifying => ?_, fun other => if_neg other, fun pen => if_pos pen,
    fun pen => ?_, fun owed => if_pos owed, fun none => if_neg (Nat.not_lt.mpr none.le)⟩
  · exact if_neg (by rw [still]; exact Bool.false_ne_true)
  · rw [times waits, Mmsl.timeout_more more]
  · rw [times waits, Mmsl.timeout_last last]; rfl
  · have answered : runInput (.mmRxRespond m) s = .next (s.setMmsl m { y.setVstat .succeeded with waiting := false }) :=
      if_pos verifying
    rw [answered, Mmsl.setVstat_of_ne (by rw [verifying]; nofun)]
    rfl
  · exact if_neg (by rw [pen]; exact Bool.false_ne_true)

end Sys2Proof.Machine
end

section
/-! PROOF. The counters of the MAC merge sublayer (45_mmsl R541-R545): reception behind the accounting and the end of a frame
behind its transmission leave every MMSL as it is. -/

namespace Sys2Proof.Machine

/-! ### Results that leave every MMSL -/

/-- The next state of a result, if there is one, has the MMSLs of `s`. -/
def KeepsMmsls (s : State) (r : Result) : Prop := ∀ t, r = .next t → ∀ m, t.mmsl m = s.mmsl m

namespace KeepsMmsls

variable {s : State}

theorem next {t : State} (h : ∀ m, t.mmsl m = s.mmsl m) : KeepsMmsls s (.next t) := by rintro u ⟨⟩; exact h

theorem stay : KeepsMmsls s (.next s) := .next fun _ => rfl

theorem fault (r : Fault) : KeepsMmsls s (.fault r) := by intro t e; cases e

theorem setDev (d : Dev) (x : Device) : KeepsMmsls s (.next (s.setDev d x)) := .next (State.setDev_mmsl s d x)

theorem withDma (d : Dev) (m : Memory) (x : Device) : KeepsMmsls s (.next (s.withDma d m x)) :=
  .next (State.withDma_mmsl s d m x)

theorem ite {p : Prop} [Decidable p] {a b : Result} (h : KeepsMmsls s a) (k : KeepsMmsls s b) :
    KeepsMmsls s (if p then a else b) := by
  split
  · exact h
  · exact k

end KeepsMmsls

/-! ### Reception -/

theorem rxStore_keepsMmsls (d : Dev) (t : Fin 4) (p : Parsed) (g : Option PtpMsg) (badfcs : Bool) (errs : List Nat)
    (f : List Byte) (x : Device) (s : State) : KeepsMmsls s (rxStore d t p g badfcs errs f x s) := by
  unfold rxStore
  simp only
  refine .ite (.fault _) ?_
  split
  · exact .fault _
  · exact .withDma _ _ _
  · exact .withDma _ _ _
  · exact .ite (.ite (.fault _) (.withDma _ _ _))
      (.ite (.withDma _ _ _) (.ite (.withDma _ _ _) (.withDma _ _ _)))

theorem rxDevice_keepsMmsls (d : Dev) (f : List Byte) (dr : RxDraws) (s : State) :
    KeepsMmsls s (rxDevice d f dr s) := by
  unfold rxDevice
  simp only
  refine .ite .stay (.ite (.setDev _ _) (.ite (.setDev _ _) (.ite (.setDev _ _) ?_)))
  split
  · exact .setDev _ _
  · exact .ite (.setDev _ _) (rxStore_keepsMmsls _ _ _ _ _ _ _ _ _)

/-- A frame that is taken leaves the MMSLs as its accounting does (R543-R545). -/
theorem runRxFrame_mmsl {m : Mac} {a : Arrival} {dr : RxDraws} {s t : State} (taken : rxPassed m a dr s = false)
    (h : runInput (.rxFrame m a dr) s = .next t) (n : Mac) : t.mmsl n = (rxAccounted m a s).mmsl n := by
  rw [runRxFrame_eq, taken, if_neg Bool.false_ne_true] at h
  exact KeepsMmsls.ite .stay (rxDevice_keepsMmsls _ _ _ _) t h n

/-! ### Transmission -/

theorem transmit_mmsl (s : State) (d : Dev) (c : TxConf) (frags : Nat) (f : List Byte) (n : Mac) :
    (transmit s d c frags f).mmsl n =
      if n = macOf d then (s.mmsl (macOf d)).sent (txClass s d) frags else s.mmsl n := by
  rw [transmit_eq, State.mmsl_lineOut, State.mmsl_setMmsl]

/-- A frame that ends leaves the MMSLs as its transmission does, if it is one (R542). -/
theorem runTxDone_mmsl {d : Dev} {q : Fin 4} {dr : TxDraws} {s t : State} {fr : TxFrame}
    (inflight : ((s.dev d).queue q).inflight = some fr)
    (draws : txDrawsInSet dr s d fr (txImage (s.dev d) fr).frame.length = true)
    (h : runInput (.txDone d q dr) s = .next t) (n : Mac) :
    t.mmsl n = if outcomeIsOk (txOutcome fr dr.outcome) = true ∧ n = macOf d then
      (s.mmsl n).sent (txClass s d) dr.frags else s.mmsl n := by
  have ended := (runTxDone_eq inflight draws).symm.trans h
  have sent := (KeepsMmsls.ite (.fault _) (.ite (rxDevice_keepsMmsls _ _ _ _) .stay) t ended n).trans
    (State.withDma_mmsl _ _ _ _ n)
  rw [sent]
  cases outcomeIsOk (txOutcome fr dr.outcome) with
  | false => rfl
  | true =>
    simp only [if_true, transmit_mmsl, true_and]
    split
    · next own => rw [own]
    · rfl

/-! ### The counters -/

/-- A frame that fails reassembly reaches no device (R545). -/
theorem runRxFrame_aerr {m : Mac} {a : Arrival} {dr : RxDraws} {s : State} (taken : rxPassed m a dr s = false)
    (fails : a.aerr = true) : runInput (.rxFrame m a dr) s = .next (rxAccounted m a s) := by
  rw [runRxFrame_eq, taken, if_neg Bool.false_ne_true, if_pos fails]

theorem rxPassed_eq_false {m : Mac} {a : Arrival} {dr : RxDraws} {s : State} (offered : arrivalOffered a (s.mmsl m) = true)
    (online : ncrLbLocal (s.dev (rxTarget s m a.cls)).ncr = false)
    (draws : rxDrawsInSet dr (s.cfg.nQueues (rxTarget s m a.cls)) = true) : rxPassed m a dr s = false := by
  rw [rxPassed, offered, online, draws]
  rfl

/-- Settles O58: the accounting of a frame that arrives and the transmission of one that ends, at their own MMSL. -/
theorem mmslCounters : Obligations.MmslCounters := by
  constructor
  · intro m a dr s t h x offered online draws
    have taken := rxPassed_eq_false offered online draws
    have mmsl (n : Mac) := (runRxFrame_mmsl taken h n).trans (State.mmsl_setMmsl s m n _)
    refine ⟨(mmsl m).trans (if_pos rfl), fun n other => (mmsl n).trans (if_neg other), fun fails => ?_⟩
    cases (runRxFrame_aerr taken fails).symm.trans h
    exact ⟨State.setMmsl_dev s m _, State.setMmsl_mem s m _⟩
  · intro d q dr s t fr inflight draws h mm
    have mmsl := runTxDone_mmsl inflight draws h
    refine ⟨?_, fun n other => (mmsl n).trans (if_neg fun own => other own.2)⟩
    rw [mmsl, ite_and, ite_and, if_pos rfl]
    rfl

end Sys2Proof.Machine
end

section
/-! PROOF. The interrupt status of the MAC merge sublayer (45_mmsl R534, R545; 40_registers R225): what every access and every
step but reset makes of VCHG and AERR. -/

namespace Sys2Proof.Machine

/-! ### The interrupt status of one MMSL -/

/-- From `y` to `z` the interrupt status reports what happens: VCHG is set where VSTAT is another, under the mask of `y`, and
a bit is kept unless the register is `read` (45_mmsl R534; 40_registers R225). -/
structure Mmsl.Reports (read : Prop) (y z : Mmsl) : Prop where
  vchg : z.vstat ≠ y.vstat → z.intStatus.getLsbD 0 = true
  mask : z.vstat ≠ y.vstat → z.intMask = y.intMask
  kept : ∀ b, y.intStatus.getLsbD b = true → z.intStatus.getLsbD b = true ∨ read

namespace Mmsl.Reports

variable {read : Prop} {y z : Mmsl}

/-- An MMSL that keeps its verify state and every bit. -/
theorem quiet (vstat : z.vstat = y.vstat)
    (kept : ∀ b, y.intStatus.getLsbD b = true → z.intStatus.getLsbD b = true ∨ read) : y.Reports read z where
  vchg := fun changed => absurd vstat changed
  mask := fun changed => absurd vstat changed
  kept := kept

theorem same (vstat : z.vstat = y.vstat) (intStatus : z.intStatus = y.intStatus) : y.Reports read z :=
  quiet vstat fun _ set => .inl (intStatus ▸ set)

theorem refl (y : Mmsl) : y.Reports read y := same rfl rfl

/-- A change of the verify state, or of nothing, as R534 has it. -/
theorem changed (intStatus : z.intStatus = if z.vstat = y.vstat then y.intStatus else y.intStatus ||| mmVchg)
    (mask : z.intMask = y.intMask) : y.Reports read z where
  vchg := fun other => by rw [intStatus, if_neg other, BitVec.getLsbD_or]; simp [mmVchg]
  mask := fun _ => mask
  kept := fun b set => by
    rw [intStatus]
    split
    · exact .inl set
    · exact .inl (by rw [BitVec.getLsbD_or, set, Bool.true_or])

theorem writeControl (y : Mmsl) (v : Word) : y.Reports read (y.writeControl v) := by
  rw [writeControl_fields]
  exact changed rfl rfl

theorem setVstat (y : Mmsl) (v : VState) : y.Reports read { y.setVstat v with waiting := false } :=
  changed (by simp only [Mmsl.setVstat, eq_comm (a := v)]) rfl

theorem timeout (y : Mmsl) (limit : Nat) : y.Reports read (y.timeout limit) := by
  unfold Mmsl.timeout
  split
  · exact setVstat y .failed
  · exact same rfl rfl

theorem accounted (y : Mmsl) (k : Nat) (aerr : Bool) : y.Reports read (mmslAccounted y k aerr) :=
  quiet rfl fun b set => .inl (by
    unfold mmslAccounted
    cases aerr with
    | true => simp [set]
    | false => exact set)

theorem sent (y : Mmsl) (cls : Cls) (k : Nat) : y.Reports read (y.sent cls k) := by
  unfold Mmsl.sent
  split
  · exact same rfl rfl
  · exact refl y

end Mmsl.Reports

/-! ### The MMSLs of a state -/

/-- The access `i` is a read of the MMSL_INT_STATUS of physical MAC `m`. -/
def ReadsIntStatus (i : Option Instr) (m : Mac) : Prop :=
  ∃ d, macOf d = m ∧ d.hasMmsl = true ∧ i = some (.mmslIntStatus d .read)

/-- From `s` to `t`, by the access `i` or by a step of another agent, both MMSLs report what happens. -/
def MmslsReport (i : Option Instr) (s t : State) : Prop :=
  ∀ m, (s.mmsl m).Reports (ReadsIntStatus i m) (t.mmsl m)

namespace MmslsReport

variable {i : Option Instr} {s t : State}

theorem of_eq (h : ∀ m, t.mmsl m = s.mmsl m) : MmslsReport i s t := fun m => by
  rw [h]
  exact .refl _

theorem modDev (d : Dev) (f : Device → Device) : MmslsReport i s (s.modDev d f) := .of_eq (State.modDev_mmsl s d f)

theorem setMmsl {m : Mac} {y : Mmsl} (h : (s.mmsl m).Reports (ReadsIntStatus i m) y) :
    MmslsReport i s (s.setMmsl m y) := fun n => by
  rw [State.mmsl_setMmsl]
  split
  · next own => exact own ▸ h
  · exact .refl _

theorem modMmsl {m : Mac} {f : Mmsl → Mmsl} (h : (s.mmsl m).Reports (ReadsIntStatus i m) (f (s.mmsl m))) :
    MmslsReport i s (modMmsl s m f) := .setMmsl h

theorem lineOut (h : MmslsReport i s t) (l : List LineOut) : MmslsReport i s { t with lineOut := l } := fun m => by
  rw [State.mmsl_lineOut]
  exact h m

theorem rdata (h : MmslsReport i s t) (v : Word) : MmslsReport i s { t with rdata := v } := fun m => by
  rw [State.mmsl_rdata]
  exact h m

end MmslsReport

/-- A result whose next state, if there is one, has both MMSLs report what happens. -/
def Reporting (i : Option Instr) (s : State) (r : Result) : Prop := ∀ t, r = .next t → MmslsReport i s t

section Forms

variable {i : Option Instr} {s : State}

theorem Reporting.next {t : State} (h : MmslsReport i s t) : Reporting i s (.next t) := by rintro u ⟨⟩; exact h

theorem Reporting.stay : Reporting i s (.next s) := .next (.of_eq fun _ => rfl)

theorem Reporting.fault (r : Fault) : Reporting i s (.fault r) := by intro t e; cases e

theorem Reporting.refused (r : Refusal) : Reporting i s (.refused r) := by intro t e; cases e

theorem Reporting.ite {p : Prop} [Decidable p] {a b : Result} (h : Reporting i s a) (k : Reporting i s b) :
    Reporting i s (if p then a else b) := by
  split
  · exact h
  · exact k

theorem KeepsMmsls.reporting {r : Result} (h : KeepsMmsls s r) : Reporting i s r := fun t e => .of_eq (h t e)

theorem readAs_reporting {t : State} (v : Word) (h : MmslsReport i s t) : Reporting i s (readAs v t) := .next (h.rdata v)

theorem readAs_stay (v : Word) : Reporting i s (readAs v s) := readAs_reporting v (.of_eq fun _ => rfl)

theorem whenPresent_reporting {p : Bool} {off : Nat} {a : Result} (op : MmioOp) (h : p = true → Reporting i s a) :
    Reporting i s (whenPresent p off op s a) := by
  unfold whenPresent
  split
  · exact h ‹_›
  · cases op with
    | read => exact .next (.of_eq fun m => by cases m <;> rfl)
    | write v => exact .fault _

theorem rwReg_reporting {off : Nat} {rsvd value : Word} {store : Word → Result} (op : MmioOp)
    (h : ∀ v, Reporting i s (store v)) : Reporting i s (rwReg off rsvd value store op s) := by
  cases op with
  | read => exact readAs_stay value
  | write v => exact .ite (.fault _) (h v)

theorem roReg_reporting {value : Word} (op : MmioOp) : Reporting i s (roReg value op s) := by
  cases op with
  | read => exact readAs_stay value
  | write v => exact .stay

theorem corReg_reporting {value : Word} {cleared : State} (op : MmioOp) (h : op = .read → MmslsReport i s cleared) :
    Reporting i s (corReg value cleared op s) := by
  cases op with
  | read => exact readAs_reporting value (h rfl)
  | write v => exact .stay

theorem w1cReg_reporting {value : Word} {clear : Word → State} (op : MmioOp) (h : ∀ v, MmslsReport i s (clear v)) :
    Reporting i s (w1cReg value clear op s) := by
  cases op with
  | read => exact readAs_stay value
  | write v => exact .next (h v)

theorem cmdReg_reporting {act : Word → State} (op : MmioOp) (h : ∀ v, MmslsReport i s (act v)) :
    Reporting i s (cmdReg act op s) := by
  cases op with
  | read => exact readAs_stay 0
  | write v => exact .next (h v)

theorem queuePtrReg_reporting {d : Dev} {q : Fin 4} {off : Nat} {enabled : Bool} {value : Word}
    {store : Word → Queue → Queue} (op : MmioOp) : Reporting i s (queuePtrReg d q off enabled value store op s) := by
  refine whenPresent_reporting op fun _ => ?_
  cases op with
  | read => exact readAs_stay value
  | write v => exact .ite (.fault _) (.ite (.refused _) (.ite (.fault _) (.next (.modDev _ _))))

end Forms

/-! ### Register accesses -/

/-- Every access: those of the MMSL change it as its rules say, and the others change a device. -/
theorem exec_reporting (i : Instr) (s : State) : Reporting (some i) s (exec i s) := by
  cases i with
  | mmslControl d op =>
    exact whenPresent_reporting op fun _ => rwReg_reporting op fun v =>
      .ite (.fault _) (.next (.modMmsl (.writeControl _ v)))
  | mmslIntStatus d op =>
    refine whenPresent_reporting op fun present => corReg_reporting op fun read => .modMmsl ?_
    exact .quiet rfl fun _ _ => .inr ⟨d, rfl, present, read ▸ rfl⟩
  | mmslAssErr d op | mmslAssOk d op | mmslFragRx d op | mmslFragTx d op =>
    exact whenPresent_reporting op fun _ => corReg_reporting op fun _ => .modMmsl (.same rfl rfl)
  | mmslIntEn d op | mmslIntDis d op =>
    exact whenPresent_reporting op fun _ => cmdReg_reporting op fun _ => .modMmsl (.same rfl rfl)
  | imr d op | imrQ1 d op | imrQ2 d op | imrQ3 d op | mmslStatus d op | mmslIntMask d op =>
    exact whenPresent_reporting op fun _ => roReg_reporting op
  | ncrRead d => exact readAs_stay _
  | ncrWrite d v => exact .ite (.fault _) (.next (.modDev _ _))
  | moduleId d op | ptpTxSec d op | ptpTxNsec d op | ptpRxSec d op | ptpRxNsec d op | peerTxSec d op
  | peerTxNsec d op | peerRxSec d op | peerRxNsec d op => exact roReg_reporting op
  | hrb d op | hrt d op | rxPtpUnicast d op | txPtpUnicast d op | txBdControl d op | rxBdControl d op
  | tsuSubInc d op | tsuSecHi d op | tsuSecLo d op | tsuInc d op | sa1b d op | sa1t d op | sa2b d op | sa2t d op
  | sa3b d op | sa3t d op | sa4b d op | sa4t d op | tidm1 d op | tidm2 d op | tidm3 d op | tidm4 d op =>
    exact rwReg_reporting op fun _ => .next (.modDev _ _)
  | dmacfg d op => exact rwReg_reporting op fun _ => .ite (.refused _) (.ite (.fault _) (.next (.modDev _ _)))
  | jml d op => exact rwReg_reporting op fun _ => .ite (.next (.modDev _ _)) (.fault _)
  | ncfgr d op => exact rwReg_reporting op fun _ => .ite (.refused _) (.next (.modDev _ _))
  | stackedVlan d op | tsuNsec d op => exact rwReg_reporting op fun _ => .ite (.fault _) (.next (.modDev _ _))
  | tsr d op | rsr d op => exact w1cReg_reporting op fun _ => .modDev _ _
  | octTxLo d op | octTxHi d op | octRxLo d op | octRxHi d op | framesTx d op | bcastTx d op | mcastTx d op
  | pauseTx d op | frames64Tx d op | frames65to127Tx d op | frames128to255Tx d op | frames256to511Tx d op
  | frames512to1023Tx d op | frames1024to1518Tx d op | frames1519Tx d op | txUnderruns d op
  | singleCollisions d op | multipleCollisions d op | excessiveCollisions d op | lateCollisions d op
  | deferredTx d op | crsErrors d op | framesRx d op | bcastRx d op | mcastRx d op | pauseRx d op
  | frames64Rx d op | frames65to127Rx d op | frames128to255Rx d op | frames256to511Rx d op
  | frames512to1023Rx d op | frames1024to1518Rx d op | frames1519Rx d op | undersizeRx d op | oversizeRx d op
  | jabbersRx d op | fcsErrorsRx d op | lengthErrorsRx d op | symbolErrorsRx d op | alignmentErrorsRx d op
  | resourceErrorsRx d op | overrunsRx d op | ipChecksumErrorsRx d op | tcpChecksumErrorsRx d op
  | udpChecksumErrorsRx d op | autoFlushedRx d op => exact corReg_reporting op fun _ => .modDev _ _
  | rxbufSizeQ1 d op | rxbufSizeQ2 d op | rxbufSizeQ3 d op | t1_0 d op | t1_1 d op | t1_2 d op | t1_3 d op
  | t2_0 d op | t2_1 d op | t2_2 d op | t2_3 d op | ethtype_0 d op | ethtype_1 d op | ethtype_2 d op
  | ethtype_3 d op | cmpW0_0 d op | cmpW1_0 d op | cmpW0_1 d op | cmpW1_1 d op | cmpW0_2 d op | cmpW1_2 d op
  | cmpW0_3 d op | cmpW1_3 d op | cmpW0_4 d op | cmpW1_4 d op | cmpW0_5 d op | cmpW1_5 d op | cmpW0_6 d op
  | cmpW1_6 d op | cmpW0_7 d op | cmpW1_7 d op | cmpW0_8 d op | cmpW1_8 d op | cmpW0_9 d op | cmpW1_9 d op
  | cmpW0_10 d op | cmpW1_10 d op | cmpW0_11 d op | cmpW1_11 d op =>
    exact whenPresent_reporting op fun _ => rwReg_reporting op fun _ => .next (.modDev _ _)
  | rxqbqp d op | rxqbqpQ1 d op | rxqbqpQ2 d op | rxqbqpQ3 d op | txqbqp d op | txqbqpQ1 d op | txqbqpQ2 d op
  | txqbqpQ3 d op => exact queuePtrReg_reporting op
  | isr d op | isrQ1 d op | isrQ2 d op | isrQ3 d op =>
    exact whenPresent_reporting op fun _ => corReg_reporting op fun _ => .modDev _ _
  | ier d op | ierQ1 d op | ierQ2 d op | ierQ3 d op | idr d op | idrQ1 d op | idrQ2 d op | idrQ3 d op =>
    exact whenPresent_reporting op fun _ => cmdReg_reporting op fun _ => .modDev _ _

theorem accessUnlisted_reporting {i : Option Instr} (d : Dev) (off : Nat) (op : MmioOp) (s : State) :
    Reporting i s (accessUnlisted d off op s) := by
  have stored {p : Bool} {o : Nat} {rsvd value : Word} {f : Word → Device → Device} :
      Reporting i s (whenPresent p o op s (rwReg o rsvd value (fun v => .next (s.modDev d (f v))) op s)) :=
    whenPresent_reporting op fun _ => rwReg_reporting op fun v => .next (.modDev _ _)
  unfold accessUnlisted
  exact .ite stored (.ite stored (.ite stored (.ite (.ite stored stored)
    (whenPresent_reporting (p := false) (a := .next s) op nofun))))

theorem runDecoded_reporting (r : Except Reject Instr) (s : State) : Reporting r.toOption s (runDecoded r s) := by
  unfold runDecoded
  split
  · exact exec_reporting _ s
  · exact .refused _
  · exact accessUnlisted_reporting _ _ _ s

theorem runBus_reporting (a : Word) (n : Nat) (op : MmioOp) (s : State) :
    Reporting (accessOf (.bus a n op)) s (runBus a n op s) := by
  cases window : windowOf a with
  | none =>
    simp only [runBus, window]
    exact .refused _
  | some d =>
    simp only [runBus, accessOf, window]
    by_cases word : n = 4
    · rw [if_neg (not_not_intro word), if_pos word]
      exact runDecoded_reporting _ s
    · rw [if_pos word]
      exact .refused _

/-! ### Steps of the agents -/

theorem runTxFetch_keepsMmsls (d : Dev) (q : Fin 4) (errs : List Nat) (s : State) :
    KeepsMmsls s (runTxFetch d q errs s) := by
  unfold runTxFetch
  simp only
  refine .ite .stay ?_
  split
  · exact .fault _
  · exact .setDev _ _
  · exact .setDev _ _
  · exact .ite (.fault _) (.ite (.fault _) (.setDev _ _))

theorem runTxDone_reporting {i : Option Instr} (d : Dev) (q : Fin 4) (dr : TxDraws) (s : State) :
    Reporting i s (runInput (.txDone d q dr) s) := by
  intro t h m
  cases inflight : ((s.dev d).queue q).inflight with
  | none =>
    cases (runTxDone_of_idle dr inflight).symm.trans h
    exact .refl _
  | some fr =>
  cases draws : txDrawsInSet dr s d fr (txImage (s.dev d) fr).frame.length with
  | false =>
    cases (runTxDone_of_not_inSet inflight draws).symm.trans h
    exact .refl _
  | true =>
  rw [runTxDone_mmsl inflight draws h]
  split
  · exact .sent _ _ _
  · exact .refl _

theorem runRxFrame_reporting {i : Option Instr} (m : Mac) (a : Arrival) (dr : RxDraws) (s : State) :
    Reporting i s (runInput (.rxFrame m a dr) s) := by
  intro t h n
  cases taken : rxPassed m a dr s with
  | true =>
    rw [runRxFrame_eq, if_pos taken] at h
    cases h
    exact .refl _
  | false =>
    rw [runRxFrame_mmsl taken h]
    refine MmslsReport.setMmsl ?_ n
    split
    · exact .accounted _ _ _
    · exact .refl _

/-- Every step but reset has both MMSLs report what happens. -/
theorem runInput_reporting {i : Input} (s : State) (running : i ≠ .hwReset) :
    Reporting (accessOf i) s (runInput i s) := by
  cases i with
  | mmio t => exact runDecoded_reporting (decode t) s
  | bus a n op => exact runBus_reporting a n op s
  | hostStore a b => exact .ite (.fault _) (.ite (.fault _) (.next (.of_eq (State.mmsl_mem s _))))
  | hostLoad a => exact .ite (.fault _) (readAs_stay _)
  | txFetch d q errs => exact (runTxFetch_keepsMmsls d q errs s).reporting
  | txDone d q dr => exact runTxDone_reporting d q dr s
  | rxFrame m a dr => exact runRxFrame_reporting m a dr s
  | tsuTick d => exact .next (.modDev _ _)
  | mmSendVerify m | mmSendRespond m => exact .ite (.next (.lineOut (.modMmsl (.same rfl rfl)) _)) .stay
  | mmTimeout m => exact .ite (.next (.modMmsl (.timeout _ _))) .stay
  | mmRxRespond m => exact .ite (.next (.modMmsl (.setVstat _ _))) .stay
  | mmRxVerify m => exact .ite (.next (.modMmsl (.same rfl rfl))) .stay
  | lineEvent d c => exact .ite (.next (.modDev _ _)) .stay
  | hwReset => exact absurd rfl running

/-- Settles O57: every step but reset reports, and a frame that fails reassembly is accounted. -/
theorem mmslInterruptStatus : Obligations.MmslInterruptStatus := by
  constructor
  · intro i s t m h running
    obtain ⟨vchg, -, kept⟩ := runInput_reporting s running t h m
    exact ⟨vchg, fun b _ => kept b⟩
  · intro m a dr s cls fails offered online draws
    have mmsl : (rxAccounted m a s).mmsl m = mmslAccounted (s.mmsl m) a.frags true := by
      rw [rxAccounted, State.mmsl_setMmsl_self, if_pos cls, fails]
    refine ⟨_, runRxFrame_aerr (rxPassed_eq_false offered online draws) fails, ?_, ?_⟩
    · rw [mmsl]
      simp [mmslAccounted]
    · rw [mmsl]
      rfl

end Sys2Proof.Machine
end

section
/-! PROOF. The interrupt lines of the queues and of the MAC merge sublayer (60_exceptions R662): what lowers a line, a
read of the status or a mask, and what raises it again (R668; 40_registers R198, R200, R225, R226; 45_mmsl R534). -/

namespace Sys2Proof.Machine

/-! ### Status words under a mask -/

/-- A status bit that is implemented and not masked drives its line. -/
theorem unmasked_ne_zero {status mask impl : Word} {b : Nat} (set : status.getLsbD b = true)
    (unmasked : mask.getLsbD b = false) (implemented : impl.getLsbD b = true) : status &&& ~~~mask &&& impl ≠ 0 := by
  have driven : (status &&& ~~~mask &&& impl).getLsbD b = true := by
    simp only [BitVec.getLsbD_and, BitVec.getLsbD_not, set, unmasked, implemented, BitVec.lt_of_getLsbD set]
    rfl
  intro zero
  simp [zero] at driven

/-- A word of ones written to a disable register masks every implemented bit (40_registers R200, R226). -/
theorem masked_eq_zero (status mask impl : Word) : status &&& ~~~(mask ||| (0xFFFFFFFF#32 &&& impl)) &&& impl = 0 := by
  have ones : 0xFFFFFFFF#32 &&& impl = impl := BitVec.allOnes_and
  rw [ones, BitVec.not_or, BitVec.and_assoc, BitVec.and_assoc, BitVec.and_comm (~~~impl), BitVec.and_not_self]
  simp

/-- An event sets its bits beside those that are set (60_exceptions R661), so its unmasked ones drive the line. -/
theorem unmasked_or_ne_zero (status : Word) {bits mask impl : Word} (unmasked : bits &&& ~~~mask &&& impl ≠ 0) :
    (status ||| bits) &&& ~~~mask &&& impl ≠ 0 := by
  rw [BitVec.and_or_distrib_right, BitVec.and_or_distrib_right]
  exact fun zero => unmasked (BitVec.or_eq_zero_iff.mp zero).2

/-! ### The line of a queue -/

theorem Device.line_iff (x : Device) (q : Fin 4) :
    x.line q = true ↔ (x.queue q).isr &&& ~~~(x.queue q).imr &&& isrImpl q ≠ 0 := bne_iff_ne

theorem Device.line_eq_false_iff (x : Device) (q : Fin 4) :
    x.line q = false ↔ (x.queue q).isr &&& ~~~(x.queue q).imr &&& isrImpl q = 0 := bne_eq_false_iff_eq

theorem Device.line_setQueue_isr_zero (x : Device) (q : Fin 4) (y : Queue) :
    (x.setQueue q { y with isr := 0 }).line q = false := by
  simp [Device.line_eq_false_iff]

theorem Device.line_setQueue_masked (x : Device) (q : Fin 4) (y : Queue) :
    (x.setQueue q { y with imr := y.imr ||| (0xFFFFFFFF#32 &&& isrImpl q) }).line q = false := by
  rw [Device.line_eq_false_iff, Device.queue_setQueue_self]
  exact masked_eq_zero _ _ _

theorem Device.line_irq (x : Device) {q : Fin 4} {bits : Word}
    (unmasked : bits &&& ~~~(x.queue q).imr &&& isrImpl q ≠ 0) : (x.irq q bits).line q = true := by
  rw [Device.line_iff, Device.queue_irq, if_pos rfl]
  exact unmasked_or_ne_zero _ unmasked

/-! ### The line of an MMSL -/

theorem Mmsl.line_iff (y : Mmsl) : y.line = true ↔ y.intStatus &&& ~~~y.intMask &&& 3#32 ≠ 0 := bne_iff_ne

theorem Mmsl.line_eq_false_iff (y : Mmsl) : y.line = false ↔ y.intStatus &&& ~~~y.intMask &&& 3#32 = 0 :=
  bne_eq_false_iff_eq

theorem Mmsl.line_intStatus_zero (y : Mmsl) : { y with intStatus := 0 }.line = false := by
  simp [Mmsl.line_eq_false_iff]

theorem Mmsl.line_masked (y : Mmsl) :
    { y with intMask := y.intMask ||| (0xFFFFFFFF#32 &&& mmIntImpl) }.line = false :=
  (Mmsl.line_eq_false_iff _).mpr (masked_eq_zero _ _ _)

/-- A change of VSTAT raises the line where VCHG is not masked (R534). -/
theorem Mmsl.Reports.line {read : Prop} {y z : Mmsl} (h : y.Reports read z) (changed : z.vstat ≠ y.vstat)
    (unmasked : y.intMask.getLsbD 0 = false) : z.line = true :=
  z.line_iff.mpr (unmasked_ne_zero (h.vchg changed) (h.mask changed ▸ unmasked) (by decide))

/-- A frame that fails reassembly raises the line where AERR is not masked (R545). -/
theorem mmslAccounted_line (y : Mmsl) (k : Nat) (unmasked : y.intMask.getLsbD 1 = false) :
    (mmslAccounted y k true).line = true := by
  have aerr : (y.intStatus ||| 2#32).getLsbD 1 = true := by simp
  exact (Mmsl.line_iff _).mpr (unmasked_ne_zero aerr unmasked (by decide))

theorem rxAccounted_aerr_line {m : Mac} {a : Arrival} {s : State} (cls : a.cls = .preemptable) (fails : a.aerr = true)
    (unmasked : (s.mmsl m).intMask.getLsbD 1 = false) : ((rxAccounted m a s).mmsl m).line = true := by
  rw [rxAccounted, State.mmsl_setMmsl_self, if_pos cls, fails]
  exact mmslAccounted_line _ _ unmasked

theorem rxTarget_preemptable (s : State) (m : Mac) : rxTarget s m .preemptable = pmacOf m := if_neg nofun

/-! ### The accesses of a pMAC -/

section Accesses

variable {d : Dev} (h : d.hasMmsl = true)

include h

theorem pmacOf_macOf : pmacOf (macOf d) = d := by
  cases d with
  | pmac0 | pmac1 => rfl
  | emac0 | emac1 => cases h

theorem exec_mmslIntStatus_read (s : State) : exec (.mmslIntStatus d .read) s =
    readAs (s.mmsl (macOf d)).intStatus (modMmsl s (macOf d) fun y => { y with intStatus := 0 }) :=
  mmslReg_of_hasMmsl h

theorem exec_mmslIntDis_write (s : State) (v : Word) : exec (.mmslIntDis d (.write v)) s =
    .next (modMmsl s (macOf d) fun y => { y with intMask := y.intMask ||| (v &&& mmIntImpl) }) :=
  mmslReg_of_hasMmsl h

end Accesses

/-! ### Interrupts return -/

/-- A preemptable frame that fails reassembly raises the line of the MMSL of its pMAC (R534, R545). -/
theorem runRxFrame_aerr_line {d : Dev} {a : Arrival} {dr : RxDraws} {s : State} (present : d.hasMmsl = true)
    (cls : a.cls = .preemptable) (fails : a.aerr = true) (offered : arrivalOffered a (s.mmsl (macOf d)) = true)
    (online : ncrLbLocal (s.dev d).ncr = false) (draws : rxDrawsInSet dr (s.cfg.nQueues d) = true)
    (unmasked : (s.mmsl (macOf d)).intMask.getLsbD 1 = false) :
    ∃ u, runInput (.rxFrame (macOf d) a dr) s = .next u ∧ (u.mmsl (macOf d)).line = true := by
  have target : rxTarget s (macOf d) a.cls = d := by rw [cls, rxTarget_preemptable, pmacOf_macOf present]
  have taken : rxPassed (macOf d) a dr s = false :=
    rxPassed_eq_false offered (target.symm ▸ online) (target.symm ▸ draws)
  exact ⟨_, runRxFrame_aerr taken fails, rxAccounted_aerr_line cls fails unmasked⟩

/-- Settles O17: of a queue by its registers; of an MMSL because every step but reset reports a change of VSTAT under
the mask it finds. -/
theorem interruptReturn : Obligations.InterruptReturn := by
  constructor
  · intro d q s present y impl
    refine ⟨(s.dev d).line_iff q, ⟨_, exec_isrAccess present .read, rfl, ?_, fun bits unmasked => ?_⟩,
      _, exec_idrAccess present (.write _), ?_, ?_⟩
    · rw [State.dev_rdata, State.dev_setDev_self, Device.line_setQueue_isr_zero]
    · rw [State.dev_rdata, State.dev_setDev_self]
      exact Device.line_irq _ (by rwa [Device.queue_setQueue_self])
    · rw [State.dev_setDev_self, Device.line_setQueue_masked]
    · rw [State.dev_setDev_self, Device.queue_setQueue_self]
  · intro d s present m y
    have cleared : ({ modMmsl s m fun y => { y with intStatus := 0 } with rdata := y.intStatus } : State).mmsl m
        = { y with intStatus := 0 } := by
      rw [State.mmsl_rdata, mmsl_modMmsl_self]
    refine ⟨y.line_iff, ⟨_, exec_mmslIntStatus_read present s, rfl, ?_, ?_, ?_⟩,
      _, exec_mmslIntDis_write present s _, ?_, ?_⟩
    · rw [cleared, Mmsl.line_intStatus_zero]
    · intro i u running next changed unmasked
      have reports := runInput_reporting _ running u next m
      rw [cleared] at reports
      exact reports.line changed unmasked
    · intro a dr cls fails offered online draws unmasked
      refine runRxFrame_aerr_line present cls fails ?_ ?_ ?_ ?_
      · rw [cleared]
        exact offered
      · rw [State.dev_rdata, modMmsl_dev]
        exact online
      · rw [modMmsl_cfg]
        exact draws
      · rw [cleared]
        exact unmasked
    · rw [mmsl_modMmsl_self, Mmsl.line_masked]
    · rw [mmsl_modMmsl_self]

end Sys2Proof.Machine
end

section
/-! PROOF. The state that the hardware reset leaves (70_reset R700-R703): the hidden state and the counters, the invariants,
and the steps that find nothing to do. -/

namespace Sys2Proof.Machine

/-! ### The state after reset -/

/-- Every device and every MMSL is as the hardware reset leaves it (70_reset R700-R702). -/
structure State.IsReset (s : State) : Prop where
  dev  : ∀ d, s.dev d = Device.reset
  mmsl : ∀ m, s.mmsl m = Mmsl.reset

theorem State.reset_isReset : State.reset.IsReset :=
  ⟨fun d => by cases d <;> rfl, fun m => by cases m <;> rfl⟩

/-- The hardware reset leaves memory, the line and the configuration alone (R702). -/
theorem runInput_hwReset (s : State) : ∃ t, runInput .hwReset s = .next t ∧ t.IsReset ∧ t.mem = s.mem
    ∧ t.lineOut = s.lineOut ∧ t.cfg = s.cfg :=
  ⟨_, rfl, ⟨fun d => by cases d <;> rfl, fun m => by cases m <;> rfl⟩, rfl, rfl, rfl⟩

@[simp] theorem Device.queue_reset (q : Fin 4) : Device.reset.queue q = Queue.reset q :=
  match q with
  | 0 | 1 | 2 | 3 => rfl

theorem Device.stats_reset (c : Stat) : Device.reset.stats[statIndex c] = 0 := Vector.getElem_replicate _

/-! ### Invariants -/

/-- Settles O8: each invariant by what it asks of a device, an MMSL or memory after reset. -/
theorem invariantsAtReset : Obligations.InvariantsAtReset := by
  have dev := State.reset_isReset.dev
  have queues : ∀ d, 1 ≤ State.reset.cfg.nQueues d := nQueues_pos (by decide)
  refine ⟨rfl, fun d => ?_, fun d => ?_, fun d => ?_, fun d => ⟨queues d, ?_⟩, fun m => ?_⟩
  · rw [dev d]
    decide
  · rw [dev d]
    exact Device.PointersAligned.reset
  · rw [dev d]
    exact .reset
  · rw [dev d]
    exact .reset (queues d)
  · rw [State.reset_isReset.mmsl m]
    exact .reset _

/-! ### Nothing moves -/

namespace State.IsReset

variable {s : State} (h : s.IsReset)

include h

theorem hiddenReset : s.HiddenReset where
  queue d q := by
    rw [h.dev d, Device.queue_reset]
    exact ⟨rfl, rfl, rfl, rfl, rfl, rfl⟩
  halt d := by
    rw [h.dev d]
    rfl
  tsu d := by
    rw [h.dev d]
    exact ⟨rfl, rfl, rfl⟩
  oct d := by
    rw [h.dev d]
    exact ⟨rfl, rfl, rfl, rfl⟩
  mmsl m := by
    rw [h.mmsl m]
    exact ⟨rfl, rfl, rfl, rfl⟩
  stats d c := by
    rw [h.dev d]
    exact Device.stats_reset c
  mmslCounters m := by
    rw [h.mmsl m]
    exact ⟨rfl, rfl, rfl, rfl⟩

/-- TE is 0, so no fetch is enabled (41_tx_ring R310). -/
theorem txFetch (d : Dev) (q : Fin 4) (errs : List Nat) : runInput (.txFetch d q errs) s = .next s := by
  refine runTxFetch_of_not_enabled errs (Bool.eq_false_iff.mpr fun enabled => ?_)
  obtain ⟨-, te, -⟩ := (txFetchEnabled_iff _ d q _).mp enabled
  rw [h.dev d] at te
  exact absurd te (by decide)

/-- No frame is in flight (41_tx_ring R320). -/
theorem txDone (d : Dev) (q : Fin 4) (dr : TxDraws) : runInput (.txDone d q dr) s = .next s :=
  runTxDone_of_idle dr (by rw [h.dev d, Device.queue_reset]; rfl)

/-- A preemptable frame needs PEN, and RE is 0 for an express one (42_rx_ring R355). -/
theorem rxFrame (m : Mac) (a : Arrival) (dr : RxDraws) : runInput (.rxFrame m a dr) s = .next s := by
  rw [runRxFrame_eq]
  split
  · rfl
  next taken =>
    obtain ⟨⟨offered, -⟩, -⟩ : (arrivalOffered a (s.mmsl m) = true ∧ _) ∧ _ := by
      simpa only [rxPassed, Bool.or_eq_true, not_or, Bool.not_eq_true, Bool.not_eq_false'] using taken
    obtain ⟨-, -, whole, pen⟩ := (arrivalOffered_iff a _).mp offered
    rw [h.mmsl m] at pen
    have express : a.cls = .express := by
      cases cls : a.cls with
      | express => rfl
      | preemptable => exact absurd (pen cls) (by decide)
    have same : rxAccounted m a s = s := by
      rw [rxAccounted, express, if_neg nofun, State.setMmsl_mmsl]
    rw [(whole express).2, same, if_neg Bool.false_ne_true]
    exact rxDevice_disabled _ _ (by rw [h.dev]; rfl)

/-- The increments are 0, so a tick adds nothing (44_tsu R462). -/
theorem tsuTick (large : 0 < s.cfg.nsRollover) (d : Dev) : runInput (.tsuTick d) s = .next s := by
  have still : (s.dev d).tsuTick s.cfg.nsRollover = s.dev d := by
    rw [h.dev d]
    exact Device.tsuTick_of_lt large
  rw [runInput_tsuTick still, State.setDev_dev]

theorem mmRxRespond (m : Mac) : runInput (.mmRxRespond m) s = .next s :=
  if_neg (by rw [h.mmsl m]; decide)

theorem mmRxVerify (m : Mac) : runInput (.mmRxVerify m) s = .next s :=
  if_neg (by rw [h.mmsl m]; decide)

theorem line (d : Dev) (q : Fin 4) : (s.dev d).line q = false := by
  rw [Device.line_eq_false_iff, h.dev d, Device.queue_reset]
  simp [Queue.reset]

theorem mmsl_line (m : Mac) : (s.mmsl m).line = false := by
  rw [h.mmsl m]
  rfl

end State.IsReset

/-- Settles O7: every step finds the devices and the MMSLs as the hardware reset leaves them. -/
theorem resetHidden : Obligations.ResetHidden := by
  have still := State.reset_isReset
  refine ⟨⟨still.hiddenReset, fun s => ?_⟩, still.txFetch, still.txDone, still.rxFrame, still.tsuTick (by decide),
    fun m => ⟨still.mmRxRespond m, still.mmRxVerify m⟩, still.line, still.mmsl_line⟩
  obtain ⟨t, next, reset, mem, line, -⟩ := runInput_hwReset s
  exact ⟨t, next, reset.hiddenReset, mem, line⟩

end Sys2Proof.Machine
end

section
/-! PROOF. What a register reads after a hardware reset (70_reset R700, R701; 10_state R33): one rule for each form of
register, one case for each form, and the registers of a family that the opcode table does not list (log 8). -/

namespace Sys2Proof.Machine

/-! ### The forms of register -/

/-- An access answers with the read value `v`. -/
def Reads (v : Word) (r : Result) : Prop := ∃ t, r = .next t ∧ t.rdata = v

section Forms

variable {v value : Word} {off o : Nat} {op : MmioOp} {s : State}

theorem whenPresent_reads {p : Bool} {r : Result} (present : p = true) (h : Reads v r) :
    Reads v (whenPresent p o op s r) := by
  rwa [whenPresent, if_pos present]

theorem whenQueue_reads {d : Dev} {n : Nat} {r : Result} (present : n < s.cfg.nQueues d) (h : Reads v r) :
    Reads v (whenPresent (decide (n < s.cfg.nQueues d)) o op s r) := whenPresent_reads (decide_eq_true present) h

/-- A register of queue `n + 1` exists, in its place of a family, where the device has the queue. -/
theorem queue_of_regExists {c : Params} {d : Dev} {n : Nat} (first : Nat) (hf : first ∈ queueFamilies) (hn : n < 3)
    (place : off = first + 4 * n) (present : regExists c d off = true) : n + 1 < c.nQueues d :=
  of_decide_eq_true ((regExists_queue c d first n hf hn place).symm.trans present)

variable (hop : op = .read)

include hop

theorem rwReg_reads {rsvd : Word} {store : Word → Result} (h : value = v) :
    Reads v (rwReg o rsvd value store op s) := hop ▸ ⟨_, rfl, h⟩

theorem roReg_reads (h : value = v) : Reads v (roReg value op s) := hop ▸ ⟨_, rfl, h⟩

theorem corReg_reads {cleared : State} (h : value = v) : Reads v (corReg value cleared op s) := hop ▸ ⟨_, rfl, h⟩

theorem w1cReg_reads {clear : Word → State} (h : value = v) : Reads v (w1cReg value clear op s) :=
  hop ▸ ⟨_, rfl, h⟩

theorem cmdReg_reads {act : Word → State} (h : 0 = v) : Reads v (cmdReg act op s) := hop ▸ ⟨_, rfl, h⟩

theorem queuePtrReg_reads {d : Dev} {q : Fin 4} {enabled : Bool} {store : Word → Queue → Queue}
    (present : q.val < s.cfg.nQueues d) (h : value = v) : Reads v (queuePtrReg d q o enabled value store op s) :=
  hop ▸ ⟨_, queuePtrReg_read present, h⟩

/-- A register of a family that reset clears. -/
theorem cleared_reads {n : Nat} {regs : Vector Word n} {k : Fin n} {p : Bool} {rsvd : Word} {store : Word → Result}
    (present : p = true) (h : regs = .replicate n 0) :
    Reads 0 (whenPresent p off op s (rwReg o rsvd regs[k] store op s)) :=
  whenPresent_reads present (rwReg_reads hop (by rw [h]; exact Vector.getElem_replicate _))

end Forms

/-! ### Every access -/

/-- A read of a register that exists returns its value of the reset column (R33). -/
theorem State.IsReset.exec_reads {s : State} (h : s.IsReset) (ok : s.cfg.ok = true) (i : Instr) (hop : i.op = .read)
    (present : i.wellFormed s.cfg = true) : Reads (resetValue i.off) (exec i s) := by
  cases i with
  | ncrWrite d v => cases hop
  | ncrRead d => exact ⟨_, rfl, congrArg Device.ncr (h.dev d)⟩
  | moduleId d op => exact roReg_reads hop rfl
  | ptpTxSec d op | ptpTxNsec d op | ptpRxSec d op | ptpRxNsec d op | peerTxSec d op | peerTxNsec d op
  | peerRxSec d op | peerRxNsec d op =>
    exact roReg_reads hop (by rw [h.dev d]; rfl)
  | hrb d op | hrt d op | rxPtpUnicast d op | txPtpUnicast d op | txBdControl d op | rxBdControl d op
  | tsuSubInc d op | tsuSecHi d op | tsuSecLo d op | tsuInc d op | sa1b d op | sa1t d op | sa2b d op
  | sa2t d op | sa3b d op | sa3t d op | sa4b d op | sa4t d op | tidm1 d op | tidm2 d op | tidm3 d op
  | tidm4 d op | dmacfg d op | jml d op | ncfgr d op | stackedVlan d op | tsuNsec d op =>
    exact rwReg_reads hop (by rw [h.dev d]; rfl)
  | tsr d op | rsr d op => exact w1cReg_reads hop (by rw [h.dev d]; rfl)
  | octTxLo d op | octTxHi d op | octRxLo d op | octRxHi d op =>
    exact corReg_reads hop (by rw [h.dev d]; rfl)
  | framesTx d op | bcastTx d op | mcastTx d op
  | pauseTx d op | frames64Tx d op | frames65to127Tx d op | frames128to255Tx d op | frames256to511Tx d op
  | frames512to1023Tx d op | frames1024to1518Tx d op | frames1519Tx d op | txUnderruns d op
  | singleCollisions d op | multipleCollisions d op | excessiveCollisions d op | lateCollisions d op
  | deferredTx d op | crsErrors d op | framesRx d op | bcastRx d op | mcastRx d op | pauseRx d op
  | frames64Rx d op | frames65to127Rx d op | frames128to255Rx d op | frames256to511Rx d op
  | frames512to1023Rx d op | frames1024to1518Rx d op | frames1519Rx d op | undersizeRx d op | oversizeRx d op
  | jabbersRx d op | fcsErrorsRx d op | lengthErrorsRx d op | symbolErrorsRx d op | alignmentErrorsRx d op
  | resourceErrorsRx d op | overrunsRx d op | ipChecksumErrorsRx d op | tcpChecksumErrorsRx d op
  | udpChecksumErrorsRx d op | autoFlushedRx d op =>
    exact corReg_reads hop (by rw [h.dev d]; exact Device.stats_reset _)
  | rxqbqp d op | txqbqp d op => exact queuePtrReg_reads hop (nQueues_pos ok d) (by rw [h.dev d]; rfl)
  | isr d op => exact whenQueue_reads (nQueues_pos ok d) (corReg_reads hop (by rw [h.dev d]; rfl))
  | ier d op | idr d op => exact whenQueue_reads (nQueues_pos ok d) (cmdReg_reads hop rfl)
  | imr d op => exact whenQueue_reads (nQueues_pos ok d) (roReg_reads hop (by rw [h.dev d]; rfl))
  | isrQ1 d op | isrQ2 d op | isrQ3 d op =>
    exact whenQueue_reads (queue_of_regExists 0x400 (by decide) (by decide) rfl present)
      (corReg_reads hop (by rw [h.dev d]; rfl))
  | txqbqpQ1 d op | txqbqpQ2 d op | txqbqpQ3 d op =>
    exact queuePtrReg_reads hop (queue_of_regExists 0x440 (by decide) (by decide) rfl present) (by rw [h.dev d]; rfl)
  | rxqbqpQ1 d op | rxqbqpQ2 d op | rxqbqpQ3 d op =>
    exact queuePtrReg_reads hop (queue_of_regExists 0x480 (by decide) (by decide) rfl present) (by rw [h.dev d]; rfl)
  | rxbufSizeQ1 d op | rxbufSizeQ2 d op | rxbufSizeQ3 d op =>
    exact whenQueue_reads (queue_of_regExists 0x4A0 (by decide) (by decide) rfl present)
      (rwReg_reads hop (by rw [h.dev d]; rfl))
  | ierQ1 d op | ierQ2 d op | ierQ3 d op =>
    exact whenQueue_reads (queue_of_regExists 0x600 (by decide) (by decide) rfl present) (cmdReg_reads hop rfl)
  | idrQ1 d op | idrQ2 d op | idrQ3 d op =>
    exact whenQueue_reads (queue_of_regExists 0x620 (by decide) (by decide) rfl present) (cmdReg_reads hop rfl)
  | imrQ1 d op | imrQ2 d op | imrQ3 d op =>
    exact whenQueue_reads (queue_of_regExists 0x640 (by decide) (by decide) rfl present)
      (roReg_reads hop (by rw [h.dev d]; rfl))
  | t1_0 d op | t1_1 d op | t1_2 d op | t1_3 d op =>
    exact cleared_reads hop ((regExists_t1 _ d _ rfl).symm.trans present) (congrArg Device.t1 (h.dev d))
  | t2_0 d op | t2_1 d op | t2_2 d op | t2_3 d op =>
    exact cleared_reads hop ((regExists_t2 _ d _ rfl).symm.trans present) (congrArg Device.t2 (h.dev d))
  | ethtype_0 d op | ethtype_1 d op | ethtype_2 d op | ethtype_3 d op =>
    exact cleared_reads hop ((regExists_ethtype _ d _ rfl).symm.trans present) (congrArg Device.ethtype (h.dev d))
  | cmpW0_0 d op | cmpW0_1 d op | cmpW0_2 d op | cmpW0_3 d op | cmpW0_4 d op | cmpW0_5 d op | cmpW0_6 d op
  | cmpW0_7 d op | cmpW0_8 d op | cmpW0_9 d op | cmpW0_10 d op | cmpW0_11 d op =>
    exact cleared_reads hop ((regExists_cmp _ d _ (.inl rfl)).symm.trans present) (congrArg Device.cmpW0 (h.dev d))
  | cmpW1_0 d op | cmpW1_1 d op | cmpW1_2 d op | cmpW1_3 d op | cmpW1_4 d op | cmpW1_5 d op | cmpW1_6 d op
  | cmpW1_7 d op | cmpW1_8 d op | cmpW1_9 d op | cmpW1_10 d op | cmpW1_11 d op =>
    exact cleared_reads hop ((regExists_cmp _ d _ (.inr rfl)).symm.trans present) (congrArg Device.cmpW1 (h.dev d))
  | mmslControl d op => exact whenPresent_reads present (rwReg_reads hop (by rw [h.mmsl]; rfl))
  | mmslAssErr d op | mmslAssOk d op | mmslFragRx d op | mmslFragTx d op | mmslIntStatus d op =>
    exact whenPresent_reads present (corReg_reads hop (by rw [h.mmsl]; rfl))
  | mmslIntEn d op | mmslIntDis d op => exact whenPresent_reads present (cmdReg_reads hop rfl)
  | mmslStatus d op | mmslIntMask d op => exact whenPresent_reads present (roReg_reads hop (by rw [h.mmsl]; rfl))

/-! ### Registers the opcode table does not list -/

/-- An offset beyond the opcode table is that of a register of a family (00_scope R7; 10_state R57-R60). -/
theorem extraOffset_family {off : Nat} (h : extraOffset off = true) :
    (∃ n : Fin 16, off = 0x500 + 4 * n.val) ∨ (∃ n : Fin 16, off = 0x540 + 4 * n.val)
      ∨ (∃ n : Fin 8, off = 0x6E0 + 4 * n.val) ∨ (∃ n : Fin 32, off = 0x700 + 8 * n.val)
      ∨ ∃ n : Fin 32, off = 0x704 + 8 * n.val := by
  simp only [Fin.exists_iff]
  obtain ⟨aligned, t1 | t2 | eth | cmp⟩ := (extraOffset_iff off).mp h
  · exact .inl ⟨(off - 0x500) / 4, by omega, by omega⟩
  · exact .inr (.inl ⟨(off - 0x540) / 4, by omega, by omega⟩)
  · exact .inr (.inr (.inl ⟨(off - 0x6E0) / 4, by omega, by omega⟩))
  · rcases (show off % 8 = 0 ∨ off % 8 = 4 by omega) with even | odd
    · exact .inr (.inr (.inr (.inl ⟨(off - 0x700) / 8, by omega, by omega⟩)))
    · exact .inr (.inr (.inr (.inr ⟨(off - 0x704) / 8, by omega, by omega⟩)))

theorem resetValue_extra {off : Nat} (h : extraOffset off = true) : resetValue off = 0 := by
  obtain ⟨-, families⟩ := (extraOffset_iff off).mp h
  simp (disch := omega) only [resetValue, if_neg]

/-- The registers beyond the opcode table are cleared, as those of their families in it are (log 8). -/
theorem State.IsReset.extra_reads {s : State} (h : s.IsReset) {d : Dev} {off : Nat} (extra : extraOffset off = true)
    (present : regExists s.cfg d off = true) : Reads (resetValue off) (runDecoded (decodeAt d off .read) s) := by
  rw [resetValue_extra extra]
  obtain ⟨n, rfl⟩ | ⟨n, rfl⟩ | ⟨n, rfl⟩ | ⟨n, rfl⟩ | ⟨n, rfl⟩ := extraOffset_family extra
  · rw [runDecoded_t1]
    exact cleared_reads rfl ((regExists_t1 _ d n rfl).symm.trans present) (congrArg Device.t1 (h.dev d))
  · rw [runDecoded_t2]
    exact cleared_reads rfl ((regExists_t2 _ d n rfl).symm.trans present) (congrArg Device.t2 (h.dev d))
  · rw [runDecoded_ethtype]
    exact cleared_reads rfl ((regExists_ethtype _ d n rfl).symm.trans present) (congrArg Device.ethtype (h.dev d))
  · rw [runDecoded_cmpW0]
    exact cleared_reads rfl ((regExists_cmp _ d n (.inl rfl)).symm.trans present) (congrArg Device.cmpW0 (h.dev d))
  · rw [runDecoded_cmpW1]
    exact cleared_reads rfl ((regExists_cmp _ d n (.inr rfl)).symm.trans present) (congrArg Device.cmpW1 (h.dev d))

/-- A read at any offset with a register: that of a row, or one of a family beyond the rows. -/
theorem State.IsReset.runDecoded_reads {s : State} (h : s.IsReset) (ok : s.cfg.ok = true) {d : Dev} {off : Nat}
    (aligned : off % 4 = 0) (present : hasRegister s.cfg d off = true) :
    Reads (resetValue off) (runDecoded (decodeAt d off .read) s) := by
  obtain ⟨known, exist⟩ := Bool.and_eq_true_iff.mp present
  cases row : lookupRow off rows with
  | some mk =>
    have parts := parts_of_lookupRow row d .read
    have atOff : (mk d .read).off = off := congrArg AccessParts.off parts
    have ofDev : (mk d .read).dev = d := congrArg AccessParts.dev parts
    have reads := h.exec_reads ok (mk d .read) (congrArg AccessParts.op parts) (by rwa [Instr.wellFormed, ofDev, atOff])
    rw [atOff] at reads
    rwa [decodeAt, if_neg (not_not_intro aligned), row]
  | none => exact h.extra_reads (by simpa [row] using known) exist

/-! ### The registers of a configuration -/

/-- Some configuration has a register at the offset: a row of the opcode table, or a register beyond it (log 8). -/
def knownOffset (off : Nat) : Bool := (lookupRow off rows).isSome || extraOffset off

/-- The families of 00_scope R7, at the largest counts that R7 allows. -/
theorem knownOffset_families : (∀ n : Fin 16, knownOffset (0x500 + 4 * n.val) = true)
    ∧ (∀ n : Fin 16, knownOffset (0x540 + 4 * n.val) = true) ∧ (∀ n : Fin 8, knownOffset (0x6E0 + 4 * n.val) = true)
    ∧ (∀ n : Fin 32, knownOffset (0x700 + 8 * n.val) = true) ∧ ∀ n : Fin 32, knownOffset (0x704 + 8 * n.val) = true := by
  decide

/-- A register of a family exists below the count that the configuration gives the family. -/
theorem hasRegister_of_lt {c : Params} {d : Dev} {off n count : Nat} (known : knownOffset off = true)
    (exist : regExists c d off = decide (n < count)) (h : n < count) : hasRegister c d off = true :=
  Bool.and_eq_true_iff.mpr ⟨known, exist.trans (decide_eq_true h)⟩

/-- The counts of the families of a legal configuration (00_scope R7, R8). -/
theorem Params.ok.families {c : Params} (h : c.ok = true) : c.nT1 ≤ 16 ∧ c.nT2 ≤ 16 ∧ c.nEth ≤ 8 ∧ c.nCmp ≤ 32 := by
  simp only [Params.ok, Bool.and_eq_true, decide_eq_true_eq] at h
  omega

/-- Every register that the counts of a configuration give it exists. -/
theorem hasRegister_families {c : Params} (h : c.ok = true) (d : Dev) :
    (∀ n, n < c.nT1 → hasRegister c d (0x500 + 4 * n) = true) ∧ (∀ n, n < c.nT2 → hasRegister c d (0x540 + 4 * n) = true)
      ∧ (∀ n, n < c.nEth → hasRegister c d (0x6E0 + 4 * n) = true)
      ∧ ∀ n, n < c.nCmp → hasRegister c d (0x700 + 8 * n) = true ∧ hasRegister c d (0x704 + 8 * n) = true := by
  obtain ⟨t1, t2, eth, cmp⟩ := Params.ok.families h
  obtain ⟨knownT1, knownT2, knownEth, knownW0, knownW1⟩ := knownOffset_families
  refine ⟨fun n hn => ?_, fun n hn => ?_, fun n hn => ?_, fun n hn => ⟨?_, ?_⟩⟩
  · exact hasRegister_of_lt (knownT1 ⟨n, by omega⟩) (regExists_t1 c d ⟨n, by omega⟩ rfl) hn
  · exact hasRegister_of_lt (knownT2 ⟨n, by omega⟩) (regExists_t2 c d ⟨n, by omega⟩ rfl) hn
  · exact hasRegister_of_lt (knownEth ⟨n, by omega⟩) (regExists_ethtype c d ⟨n, by omega⟩ rfl) hn
  · exact hasRegister_of_lt (knownW0 ⟨n, by omega⟩) (regExists_cmp c d ⟨n, by omega⟩ (.inl rfl)) hn
  · exact hasRegister_of_lt (knownW1 ⟨n, by omega⟩) (regExists_cmp c d ⟨n, by omega⟩ (.inr rfl)) hn

/-- Settles O6: a read of the state that reset leaves, by a row of the opcode table or beyond it. -/
theorem resetValues : Obligations.ResetValues := by
  refine ⟨fun i s ok hop present => ?_, State.reset_isReset.exec_reads (by decide), fun d off s ok aligned present => ?_,
    fun c d ok => hasRegister_families ok d⟩
  · obtain ⟨u, next, reset, -, -, cfg⟩ := runInput_hwReset s
    obtain ⟨t, access, reads⟩ := reset.exec_reads (cfg ▸ ok) i hop (cfg ▸ present)
    exact ⟨u, t, next, access, reads⟩
  · obtain ⟨u, next, reset, -, -, cfg⟩ := runInput_hwReset s
    obtain ⟨t, access, reads⟩ := reset.runDecoded_reads (cfg ▸ ok) aligned (cfg ▸ present)
    exact ⟨u, t, next, access, reads⟩

end Sys2Proof.Machine
end

section
/-! PROOF. Host stores and loads of memory (70_reset R706; 20_memory R114): a slot of which memory lists no byte is like one
of empty memory, so the search of a ring meets what a walk slot by slot does, and a store changes its own bytes. -/

namespace Sys2Proof.Machine

/-! ### Slots of unlisted memory -/

theorem Memory.read_unlisted {m : Memory} {b : Nat} (h : ∀ c ∈ m, c.1 ≠ b) : Memory.read m b = Config.unwrittenByte := by
  induction m with
  | nil => rfl
  | cons c rest ih =>
    rw [Memory.read, if_neg (h c List.mem_cons_self), ih fun e he => h e (List.mem_cons_of_mem _ he)]

/-- A word of which memory lists no byte reads as in empty memory. -/
theorem Memory.read32_unlisted {m : Memory} {a : Word} (h : ∀ c ∈ m, ¬ inWord a c.1) :
    Memory.read32 m a = Memory.read32 [] 0 := by
  have byte (b : Nat) (hb : inWord a b) : Memory.read m b = Config.unwrittenByte :=
    Memory.read_unlisted fun c hc same => h c hc (same ▸ hb)
  rw [Memory.read32, byte _ (.inl rfl), byte _ (.inr (.inl rfl)), byte _ (.inr (.inr (.inl rfl))),
    byte _ (.inr (.inr (.inr rfl)))]
  rfl

/-- The bytes of a word that does not pass the end of memory. -/
theorem inWord_ofNat {b x : Nat} (fits : b + 4 ≤ 2 ^ 32) (h : inWord (BitVec.ofNat 32 b) x) : b ≤ x ∧ x < b + 4 := by
  obtain rfl | rfl | rfl | rfl := h <;> bv_omega

theorem ofNat_add_four (b : Nat) : BitVec.ofNat 32 b + 4 = BitVec.ofNat 32 (b + 4) := (BitVec.ofNat_add b 4).symm

theorem Memory.read32_ofNat_unlisted {m : Memory} {b : Nat} (fits : b + 4 ≤ 2 ^ 32)
    (unlisted : ∀ c ∈ m, ¬ (b ≤ c.1 ∧ c.1 < b + 4)) : Memory.read32 m (BitVec.ofNat 32 b) = Memory.read32 [] 0 :=
  Memory.read32_unlisted fun c hc inside => unlisted c hc (inWord_ofNat fits inside)

section Unlisted

variable {m : Memory} {b : Nat} (fits : b + 8 ≤ 2 ^ 32) (unlisted : ∀ c ∈ m, ¬ (b ≤ c.1 ∧ c.1 < b + 8))

include fits unlisted

/-- Both words of a slot of which memory lists no byte read as in empty memory. -/
theorem Memory.read32_slot_unlisted : Memory.read32 m (BitVec.ofNat 32 b) = Memory.read32 [] 0
    ∧ Memory.read32 m (BitVec.ofNat 32 b + 4) = Memory.read32 [] 0 := by
  rw [ofNat_add_four]
  exact ⟨Memory.read32_ofNat_unlisted (by omega) fun c hc inside => unlisted c hc (by omega),
    Memory.read32_ofNat_unlisted (by omega) fun c hc inside => unlisted c hc (by omega)⟩

theorem txSlot_unlisted : txSlot m (BitVec.ofNat 32 b) = txSlot [] 0 := by
  obtain ⟨w0, w1⟩ := Memory.read32_slot_unlisted fits unlisted
  rw [txSlot, w0, w1]
  rfl

theorem rxSlot_unlisted (bytes : Nat) : rxSlot m bytes (BitVec.ofNat 32 b) = rxSlot [] bytes 0 := by
  obtain ⟨w0, -⟩ := Memory.read32_slot_unlisted fits unlisted
  rw [rxSlot, w0]
  rfl

end Unlisted

/-! ### Rings -/

theorem eight_dvd_stride (extended : Bool) : 8 ∣ stride extended := by cases extended <;> decide

theorem stride_pos (extended : Bool) : 0 < stride extended := by cases extended <;> decide

/-- An address whose bits 2:0 are 0 is a multiple of 8 (20_memory R107). -/
theorem eight_dvd_of_aligned {a : Word} (h : a &&& 7 = 0) : 8 ∣ a.toNat := by
  have low : (a &&& 7#32).toNat = 0 := congrArg BitVec.toNat h
  rw [BitVec.toNat_and, show (7#32).toNat = 2 ^ 3 - 1 from rfl, Nat.and_two_pow_sub_one_eq_mod] at low
  exact Nat.dvd_of_mod_eq_zero low

section Rings

variable {m : Memory} {extended : Bool} {base : Word} {dst n : Nat} (aligned : base &&& 7 = 0) (fits : dst + n ≤ 2 ^ 32)

include aligned fits

/-- The search of a ring whose slots of unlisted memory are alike and without WRAP meets what a walk slot by slot does. -/
theorem ringTouched_stride_iff {slot : Word → Slot} {blank : Slot} (unwrapped : blank.last = false)
    (alike : ∀ b, b + 8 ≤ 2 ^ 32 → (∀ c ∈ m, ¬ (b ≤ c.1 ∧ c.1 < b + 8)) → slot (BitVec.ofNat 32 b) = blank) :
    ringTouched m slot blank (stride extended) dst n (m.length + 1) base.toNat = true ↔
      RingHit slot (stride extended) dst n base.toNat :=
  ringTouched_iff m slot blank _ dst n (eight_dvd_stride _) (stride_pos _) fits unwrapped alike _ _
    (eight_dvd_of_aligned aligned) (Nat.lt_succ_of_le (List.length_filter_le _ _))

theorem txRingTouched_iff : txRingTouched m extended base dst n = true ↔
    RingHit (txSlot m) (stride extended) dst n base.toNat :=
  ringTouched_stride_iff aligned fits rfl fun _ => txSlot_unlisted

theorem rxRingTouched_iff {bytes : Nat} : rxRingTouched m extended bytes base dst n = true ↔
    RingHit (rxSlot m bytes) (stride extended) dst n base.toNat :=
  ringTouched_stride_iff aligned fits rfl fun _ fits unlisted => rxSlot_unlisted fits unlisted bytes

end Rings

/-- A walk of a transmit ring, in the words of its descriptors (R706). -/
theorem ringHit_txSlot_iff (m : Memory) (step dst n a : Nat) : RingHit (txSlot m) step dst n a ↔
    ∃ i, a + step * i < 2 ^ 32
      ∧ (∀ k < i, (Memory.read32 m (BitVec.ofNat 32 (a + step * k + 4))).getLsbD 30 = false)
      ∧ (Memory.read32 m (BitVec.ofNat 32 (a + step * i + 4))).getLsbD 31 = false
      ∧ (overlaps dst n (a + step * i) step = true
        ∨ overlaps dst n (Memory.read32 m (BitVec.ofNat 32 (a + step * i))).toNat
          (field (Memory.read32 m (BitVec.ofNat 32 (a + step * i + 4))) 0 14) = true) := by
  simp only [RingHit, slotTouched, txSlot, ofNat_add_four, Bool.and_eq_true, Bool.or_eq_true, Bool.not_eq_true']
  rfl

/-- A walk of a receive ring, in the words of its descriptors (R706). -/
theorem ringHit_rxSlot_iff (m : Memory) (bytes step dst n a : Nat) : RingHit (rxSlot m bytes) step dst n a ↔
    ∃ i, a + step * i < 2 ^ 32
      ∧ (∀ k < i, (Memory.read32 m (BitVec.ofNat 32 (a + step * k))).getLsbD 1 = false)
      ∧ (Memory.read32 m (BitVec.ofNat 32 (a + step * i))).getLsbD 0 = false
      ∧ (overlaps dst n (a + step * i) step = true
        ∨ overlaps dst n (Memory.read32 m (BitVec.ofNat 32 (a + step * i)) &&& 0xFFFFFFF8#32).toNat bytes = true) := by
  simp only [RingHit, slotTouched, rxSlot, Bool.and_eq_true, Bool.or_eq_true, Bool.not_eq_true']
  rfl

/-! ### The ownership rule -/

theorem hardwareOwned_iff_exists (s : State) (dst n : Nat) :
    hardwareOwned s dst n = true ↔ ∃ d, deviceTouched s dst n d = true := by
  simp only [hardwareOwned, Bool.or_eq_true]
  constructor
  · rintro (((h | h) | h) | h) <;> exact ⟨_, h⟩
  · rintro ⟨d, h⟩
    cases d <;> simp [h]

/-- The search finds what the rule forbids (R706; log 32). -/
theorem hardwareOwned_iff_touchesOwned {s : State} (aligned : s.PointersAligned) {dst n : Nat} (fits : dst + n ≤ 2 ^ 32) :
    hardwareOwned s dst n = true ↔ TouchesOwned s dst n := by
  rw [hardwareOwned_iff_exists]
  refine exists_congr fun d => ?_
  simp only [deviceTouched, List.any_eq_true, List.mem_finRange, true_and, Bool.and_eq_true, Bool.or_eq_true,
    Bool.not_eq_true', decide_eq_true_eq, txRingTouched_iff (aligned d _).txBase fits,
    rxRingTouched_iff (aligned d _).rxBase fits, ringHit_txSlot_iff, ringHit_rxSlot_iff]
  refine exists_congr fun q => ⟨?_, ?_⟩
  · rintro ⟨exist, ⟨⟨te, enabled⟩, i, hit⟩ | ⟨⟨re, enabled⟩, i, hit⟩⟩
    · exact ⟨i, exist, .inl ⟨te, enabled, hit⟩⟩
    · exact ⟨i, exist, .inr ⟨re, enabled, hit⟩⟩
  · rintro ⟨i, exist, ⟨te, enabled, hit⟩ | ⟨re, enabled, hit⟩⟩
    · exact ⟨exist, .inl ⟨⟨te, enabled⟩, i, hit⟩⟩
    · exact ⟨exist, .inr ⟨⟨re, enabled⟩, i, hit⟩⟩

/-- Settles O60: the search meets a slot that the store touches, or the store writes its own bytes. -/
theorem hostAccesses : Obligations.HostAccesses := by
  refine ⟨fun a bs s fits aligned => ?_, fun a s fits => if_neg (Nat.not_lt.mpr fits)⟩
  have inside : runInput (.hostStore a bs) s = if hardwareOwned s a.toNat bs.length
      then .fault .hostTouchedHardwareOwned else .next { s with mem := Memory.writeBytes s.mem a.toNat bs } :=
    if_neg (Nat.not_lt.mpr fits)
  rw [inside, ← hardwareOwned_iff_touchesOwned aligned fits]
  exact ⟨fun owned => if_pos owned, fun free => ⟨_, if_neg free, Memory.read_writeBytes bs s.mem a.toNat⟩⟩

end Sys2Proof.Machine
end
